-- ==== Sys2Proof/Word.lean ====
section
/-! DEFINITION. The plain words of the CZ-410: bytes, 16-bit registers and words, and the 32-bit wrapping times. -/

namespace Sys2Proof

/-- One byte of the exchange memory or of the history array. -/
abbrev Byte := BitVec 8

/-- One 16-bit word of the companion bus (R148). -/
abbrev Half := BitVec 16

/-- A part time in ms or a service clock in s: 32 bits, wrapping (Conventions, "Time bases"). -/
abbrev Time := BitVec 32

end Sys2Proof
end

