-- ==== Sys2Proof/Syntax.lean ====
section
/-! DEFINITION. The commands of the CZ-410: one constructor of `Instr` per row of spec/opcode_table.json. -/

namespace Sys2Proof

/-- The two battery bays. -/
inductive BayId
  | bayA
  | bayB
deriving DecidableEq, Repr

/-- The five debounced inputs (R2). -/
inductive Contact
  | present (b : BayId)
  | latch (b : BayId)
  | chgDone
deriving DecidableEq, Repr

/-- What the lines SYSRUN[1:0] say (R28): one of three states, or a combination outside these three. -/
inductive SysrunLines
  | run
  | standby
  | off
  | other
deriving DecidableEq, Repr

/-- A power round (1.4, R52): voltages in mV and the two signed 12-bit current codes. -/
structure Round where
  mvA : Nat
  codeA : BitVec 12
  mvB : Nat
  codeB : BitVec 12
  mvBridge : Nat
  mvDc : Nat
deriving DecidableEq, Repr

/-- What the sensor link gives in a sample slot (R104): no acknowledge, no new measurement, or the seven bytes. -/
inductive SlotReading
  | noAck
  | noNewData
  | frame (b0 b1 b2 b3 b4 b5 b6 : Byte)
deriving DecidableEq, Repr

/-- The four live pages (10.5). -/
inductive PageId
  | part
  | power
  | display
  | motion
deriving DecidableEq, Repr

/-- One of the 16 request entries (R164). -/
abbrev EntryId := Fin 16

/-- The commands: one constructor per row of spec/opcode_table.json, in the table's order. An operand is what comes
from outside the part with the event: a host's address, value and byte enables, a measurement, a line level, or what
the cells of the history array hold. A request row is the posting write of an entry whose body names that request
(R153, R165): its operand is the entry, and the arguments are read from the body (R191). -/
inductive Instr
  /-- COLD_START (R29). -/
  | coldStart
  /-- LINK_START (R149). -/
  | linkStart
  /-- START_UP_SCAN_END (R139). -/
  | startUpScanEnd
  /-- PLTRST_ASSERTION (R162). -/
  | pltrstAssertion
  /-- PLTRST_DEASSERTION (R87). -/
  | pltrstDeassertion
  /-- RAW_CONTACT_CHANGE (R2): the raw level of one input; `true` is present, closed, done. -/
  | rawContactChange (c : Contact) (level : Bool)
  /-- PRESENT_ACCEPTED (R6). -/
  | presentAccepted (b : BayId)
  /-- LATCH_ACCEPTED (R5). -/
  | latchAccepted (b : BayId)
  /-- CHG_DONE_ACCEPTED (R21). -/
  | chgDoneAccepted
  /-- SYSRUN_CHANGE (R28). -/
  | sysrunChange
  /-- POWER_ROUND (R53). -/
  | powerRound (r : Round)
  /-- TTE_SECOND_CLOSE (R63). -/
  | tteSecondClose
  /-- QUALIFICATION_WINDOW_END (R4). -/
  | qualificationWindowEnd (b : BayId)
  /-- PREPARATION_SWITCH_OVER (R33). -/
  | preparationSwitchOver
  /-- PREPARED_TIMER_EXPIRY (R36). -/
  | preparedTimerExpiry (b : BayId)
  /-- RIDE_THROUGH_EXPIRY (R42). -/
  | rideThroughExpiry
  /-- LIGHT_SAMPLE (R67): the 10-bit code. -/
  | lightSample (code : BitVec 10)
  /-- RAMP_STEP (R81). -/
  | rampStep
  /-- DELAY_EXPIRY (R90). -/
  | delayExpiry
  /-- FRAME_BOUNDARY (R91). -/
  | frameBoundary
  /-- ON_TIME_END (R96). -/
  | onTimeEnd
  /-- OFF_TIME_END (R96). -/
  | offTimeEnd
  /-- SAMPLE_SLOT (R104). -/
  | sampleSlot (r : SlotReading)
  /-- LINK_RESTART (R105). -/
  | linkRestart
  /-- SETTLE_END (R111). -/
  | settleEnd
  /-- INTERRUPTION_LIST_ARRIVAL (R113). -/
  | interruptionListArrival
  /-- PARK_HOLD_EXPIRY (R115). -/
  | parkHoldExpiry
  /-- PROGRAM_COMPLETION (R129): `none` when the slot reads back as meant, else the bytes it reads back. -/
  | programCompletion (cells : Option (List Byte))
  /-- ERASE_COMPLETION (R130): `none` when the sector reads back all 0xFF, else the bytes it reads back. -/
  | eraseCompletion (cells : Option (List Byte))
  /-- ERASE_TIMEOUT (R130): the bytes the stopped erase leaves in the sector. -/
  | eraseTimeout (cells : List Byte)
  /-- BOUNDARY_STEP_COMPLETION (R138): `none` when every mark was programmed, else the marks the step did program. -/
  | boundaryStepCompletion (marks : Option (BitVec 55))
  /-- SERVICE_CLOCK_ADVANCE (R175). -/
  | serviceClockAdvance
  /-- PERIODIC_PAGE_UPDATE (R185). -/
  | periodicPageUpdate (p : PageId)
  /-- PAGE_UPDATE_END (R184). -/
  | pageUpdateEnd (p : PageId)
  /-- HOST_WRITE (R148): a byte offset of the exchange memory, a word, and the byte enables (bit 0 the low byte). -/
  | hostWrite (off : BitVec 13) (w : Half) (en : BitVec 2)
  /-- WITHDRAW (R169): the WITHDRAW write to an entry's state word. -/
  | withdraw (e : EntryId)
  /-- GIVE_BACK (R170): the write of FREE to an entry's state word. -/
  | giveBack (e : EntryId)
  /-- CONSUME (R181): the write of `c` to the consumed byte of notice slot `k`. -/
  | consume (k : Fin 32) (c : Byte)
  /-- ATTN_READ (R158): a host read of ATTN by the enabled bytes. -/
  | attnRead (en : BitVec 2)
  /-- ATTN_CLR (R157): a host write of ATTN_CLR. -/
  | attnClr (w : Half) (en : BitVec 2)
  /-- ATTN_MASK (R158): a host write of ATTN_MASK. -/
  | attnMask (w : Half) (en : BitVec 2)
  /-- ARM (R158): a LINK_CTRL write of ARM with LINK_RESET 0. -/
  | arm (on : Bool)
  /-- LINK_RESET (R160): a LINK_CTRL write with LINK_RESET 1 and this ARM value. -/
  | linkReset (arm : Bool)
  /-- REGISTER_WRITE_NO_EFFECT (R156): a write to the register window. -/
  | registerWriteNoEffect (off : BitVec 4) (w : Half) (en : BitVec 2)
  /-- BAD_KIND (R165): posting an entry whose kind names no request. -/
  | badKind (e : EntryId)
  /-- SETUP (R173). -/
  | setup (e : EntryId)
  /-- SET_CLOCK (R175). -/
  | setClock (e : EntryId)
  /-- NOTICE_ROUTE (R176). -/
  | noticeRoute (e : EntryId)
  /-- CANCEL (R177). -/
  | cancel (e : EntryId)
  /-- SET_SOURCE_POLICY (R19). -/
  | setSourcePolicy (e : EntryId)
  /-- SWAP_PREPARE (R32). -/
  | swapPrepare (e : EntryId)
  /-- SWAP_ABORT (R37). -/
  | swapAbort (e : EntryId)
  /-- PACK_SET_CAPACITY (R61). -/
  | packSetCapacity (e : EntryId)
  /-- SET_PACK_WARN (R23). -/
  | setPackWarn (e : EntryId)
  /-- INSTALL_CURVE (R73). -/
  | installCurve (e : EntryId)
  /-- SET_BRIGHTNESS (R76). -/
  | setBrightness (e : EntryId)
  /-- SET_CEILINGS (R80). -/
  | setCeilings (e : EntryId)
  /-- SET_FILTER (R82). -/
  | setFilter (e : EntryId)
  /-- INDICATOR_PULSE (R99). -/
  | indicatorPulse (e : EntryId)
  /-- SET_DROP_THRESHOLDS (R121). -/
  | setDropThresholds (e : EntryId)
  /-- MOTION_ARM (R123). -/
  | motionArm (e : EntryId)
  /-- HISTORY_APPEND_NOTE (R143). -/
  | historyAppendNote (e : EntryId)
  /-- HISTORY_MAP (R142). -/
  | historyMap (e : EntryId)
  /-- HISTORY_PROTECT (R138). -/
  | historyProtect (e : EntryId)
  /-- HISTORY_LOCATE (R145). -/
  | historyLocate (e : EntryId)
  /-- ALWAYS_ON_SUPPLY_LOSS (R137): what the interrupted array operation leaves, as bytes or as marks programmed. -/
  | alwaysOnSupplyLoss (cells : List Byte) (marks : BitVec 55)
  /-- SYSRUN_LINE_CHANGE (R28): the raw level of the lines. -/
  | sysrunLineChange (l : SysrunLines)
deriving DecidableEq, Repr

end Sys2Proof
end

