-- ==== Sys2Proof/Config.lean ====
section
/-! DEFINITION. What is fixed for every CZ-410 (identity, factory tables, ranges) and the free values the manual leaves open. -/

namespace Sys2Proof

/-- IDENT: family code 0x5C, silicon revision 0x03 (12.6). -/
def Config.ident : Half := 0x5C03

/-- The factory brightness curve: (lux, level) points (R74). -/
def Config.factoryCurve : List (Nat × Nat) :=
  [(0, 40), (200, 120), (2000, 300), (10000, 550), (20000, 700), (60000, 900), (100000, 1000)]

/-- The open-circuit table: (mV, SoC percent) points (3.3). -/
def Config.openCircuit : List (Nat × Nat) :=
  [(9000, 0), (9900, 5), (10500, 15), (10800, 30), (11100, 50), (11500, 70), (12000, 90), (12600, 100)]

/-- Byte `k` of sector 63, the factory sector. R127 says what it holds and no rule gives its layout: a free
value (assumption 9). -/
opaque Config.factoryByte : Nat → Byte

/-- The sector a HISTORY_FAULT of cause BOUNDARY names, for the n-th draw. R141 writes "the sector concerned"
and no rule says which sector a boundary step concerns: a free value (assumption 10). -/
opaque Config.boundaryFaultSector : Nat → Byte

end Sys2Proof
end

