-- ==== Sys2Proof/Machine/State.lean ====
section
/-! DEFINITION. Everything the CZ-410 holds, as plain data, block by block, and its values after a cold start. -/

namespace Sys2Proof.Machine

/-- Why the part would stop. No rule of the spec stops the part, so no constructor exists: every command of the table
has an effect in every state, if only none. (Loss of supply is a state, `State.powered`.) Safe. -/
inductive Fault
deriving DecidableEq, Repr

/-- Why the model refuses a command. -/
inductive Refusal
  /-- Raised by an arm of exec for a command that has no meaning yet; no arm raises it. Safe. -/
  | notModelled (mnemonic : String)
deriving DecidableEq, Repr

/-! ## Enumerations (12.6) -/

/-- Bay states (R1, 1.3). -/
inductive BayState
  | empty | seated | qualifying | ready | feeding | swapPrepared | releasing | held | fault
deriving DecidableEq, Repr

/-- The feeding set (R13): no member, or one. -/
inductive Feed
  | empty | bayA | bayB | dc | bridge
deriving DecidableEq, Repr

/-- Power states (R14). -/
inductive PowerState
  | dc | pack | bridge | exhausted
deriving DecidableEq, Repr

/-- System states (R28). -/
inductive SysState
  | run | standby | off
deriving DecidableEq, Repr

/-- Source policies (R16). -/
inductive Policy
  | sequential | drainLower | balanced
deriving DecidableEq, Repr

/-- Pack monitor states (R8). -/
inductive PackMonitor
  | released | tripped
deriving DecidableEq, Repr

/-- Bridge monitor states (R10). -/
inductive BridgeMonitor
  | low | recovering | ready
deriving DecidableEq, Repr

/-- A bay's outcome for a shock hold (R1). -/
inductive HoldOutcome
  | returned | removed
deriving DecidableEq, Repr

/-- HOLDUP causes (R44). -/
inductive HoldupCause
  | rideThrough | bridgeTrip | bridgeCutoff | sourceLost
deriving DecidableEq, Repr

/-- Light sensor gains (R66). -/
inductive Gain
  | high | low
deriving DecidableEq, Repr

/-- Where the installed curve came from (R66). -/
inductive CurveOrigin
  | factory | host
deriving DecidableEq, Repr

/-- Brightness modes (R75). -/
inductive Mode
  | auto | manual
deriving DecidableEq, Repr

/-- Backlight states (R88). -/
inductive BacklightState
  | dark | delay | framing
deriving DecidableEq, Repr

/-- Pulse group classes (R88). -/
inductive GroupClass
  | swap | drop | host
deriving DecidableEq, Repr

/-- Motion states (R103). -/
inductive MotionState
  | disarmed | watching | falling | settling | fault
deriving DecidableEq, Repr

/-- Drop outcomes (R109). -/
inductive DropOutcome
  | impact | caught | abandoned | sensorLost
deriving DecidableEq, Repr

/-- Causes of the Motion Unit's FAULT (R119). -/
inductive MotionCause
  | watchLost | fallLost | settleLost
deriving DecidableEq, Repr

/-- History record kinds (R132). -/
inductive RecordKind
  | drop | swap | unplanned | holdup | note | clock | boundary | restart
deriving DecidableEq, Repr

/-- Causes of the History Unit's FAULT (R141). -/
inductive HistoryCause
  | erase | boundary | sequence
deriving DecidableEq, Repr

/-- Entry states (R164). -/
inductive EntryState
  | free | posted | active | done
deriving DecidableEq, Repr

/-- The four units that can hold an ACTIVE request between events (R167). -/
inductive UnitId
  | power | display | motion | history
deriving DecidableEq, Repr

/-- Reset causes of the part page (R187). -/
inductive ResetCause
  | cold | platform | link
deriving DecidableEq, Repr

/-- The two groups of a notice route (R182). -/
inductive NoticeGroup
  | groupA | groupB
deriving DecidableEq, Repr

/-! ## Small records -/

/-- A running timer: the part time it started at and its length in ms. -/
structure Timer where
  start : Time
  len : Nat
deriving DecidableEq, Repr

/-- A debounced input (R2): raw level, accepted level, and the start of its candidate. -/
structure Input where
  raw : Bool
  acc : Bool
  cand : Option Time
deriving DecidableEq, Repr

/-- A bay record (R1), with the bay's part of the latest power round (1.4) and its prepared timer (R31). -/
structure Bay where
  state : BayState
  prior : Option BayState
  priorRel : Option BayState
  strandedAtLoss : Bool
  present : Input
  latch : Input
  qualStart : Time
  clean : Bool
  monitor : PackMonitor
  tripRun : Nat
  releaseRun : Nat
  depleted : Bool
  latchOpen : Bool
  chargeSel : Bool
  heldMs : Nat
  heldSince : Option Time
  outcome : Option HoldOutcome
  mv : Nat
  code : BitVec 12
  prepTimer : Option Timer
  prepStart : Time
deriving DecidableEq, Repr

/-- The preparation record (R31), with the part time of its acceptance. -/
structure Preparation where
  pending : Bool
  bay : BayId
  latchNote : Bool
  request : Option EntryId
  since : Time
deriving DecidableEq, Repr

/-- One entry of the bay interruption list (R113). -/
structure Interruption where
  bay : BayId
  outcome : HoldOutcome
  heldMs : Nat
deriving DecidableEq, Repr

/-- A history record before it has its sequence number (R132). -/
structure HistRecord where
  kind : RecordKind
  clockUnset : Bool
  clock : Time
  payload : List Byte
deriving DecidableEq, Repr

/-- An entry into EXHAUSTED whose notice and record the current event still has to hand over (R44, R188). -/
structure Holdup where
  notice : List Byte
  record : HistRecord
deriving DecidableEq, Repr

/-- The Source Controller (R1, R31): bays, bridge, DC, feeding set, power state, hold and timers. -/
structure Source where
  bayA : Bay
  bayB : Bay
  bridgeMonitor : BridgeMonitor
  bridgeBelow : Nat
  bridgeNotBelow : Nat
  bridgeHigh : Nat
  cutoff : Bool
  brChg : Bool
  bridgeMv : Nat
  dcPresent : Bool
  dcRun : Nat
  dcMv : Nat
  feeding : Feed
  power : PowerState
  exhLatch : Bool
  policy : Policy
  warn : Nat
  hold : Bool
  deferred : Bool
  interrupted : List BayId
  listOut : Option (List Interruption)
  prep : Preparation
  rideTimer : Option Timer
  chgDone : Input
  sysLines : SysrunLines
  sysState : SysState
  sysCand : Option Time
  holdups : List Holdup
deriving DecidableEq, Repr

/-- A gauge record (R51). -/
structure GaugeRec where
  remaining : Nat
  full : Nat
  sub : Int
  drawn : Nat
  learn : Bool
  soc : Nat
  armed : Bool
  satCount : Nat
  residual : Nat
deriving DecidableEq, Repr

/-- The Charge Gauge (R51, R55, R63). -/
structure Gauge where
  recA : Option GaugeRec
  recB : Option GaugeRec
  keptA : Option Nat
  keptB : Option Nat
  window : List Int
  secSum : Int
  secCount : Nat
deriving DecidableEq, Repr

/-- The Brightness Unit (R66). Curve points are (lux, level). -/
structure Bright where
  gain : Gain
  discard : Bool
  saturated : Bool
  lastCode : Nat
  rawLux : Nat
  filtered : Nat
  filterValid : Bool
  curve : List (Nat × Nat)
  origin : CurveOrigin
  staged : Option (List (Nat × Nat))
  mode : Mode
  manual : Nat
  offset : Int
  battCeil : Nat
  bridgeCeil : Nat
  threshold : Nat
  reserve : Nat
  attack : Nat
  release : Nat
  ramp : Nat
  allowance : Bool
  curveLevel : Nat
  request : Nat
  ceiling : Nat
  target : Nat
  current : Nat
  compare : Nat
  judgedSoc : Nat
deriving DecidableEq, Repr

/-- A pulse group (R88), with the start of its present phase and the result flags of its request. -/
structure Group where
  cls : GroupClass
  count : Nat
  onMs : Nat
  offMs : Nat
  completed : Nat
  phaseOn : Bool
  phaseStart : Time
  entry : Option EntryId
  flags : Nat
deriving DecidableEq, Repr

/-- The Output Driver (R88). -/
structure Driver where
  state : BacklightState
  configured : Bool
  sys : SysState
  levelZero : Bool
  nextCompare : Nat
  activeCompare : Nat
  period : Nat
  swapped : Bool
  inverted : Bool
  nextPeriod : Nat
  nextSwapped : Bool
  nextInverted : Bool
  delayStart : Time
  delayLen : Nat
  active : Option Group
  waitSwap : Option Group
  waitDrop : Option Group
  waitHost : Option Group
deriving DecidableEq, Repr

/-- The seven drop thresholds (R121). -/
structure Thresholds where
  f : Nat
  n : Nat
  g : Nat
  i : Nat
  settle : Nat
  park : Nat
  alert : Nat
deriving DecidableEq, Repr

/-- A candidate run of low samples (R103). -/
structure Candidate where
  first : BitVec 32
  length : Nat
  gap : Nat
deriving DecidableEq, Repr

/-- A good accelerometer sample in counts (R104). -/
structure Sample where
  x : Int
  y : Int
  z : Int
deriving DecidableEq, Repr

/-- The fall record under construction (R103). -/
structure Fall where
  sequence : Nat
  startSlot : BitVec 32
  time : Time
  clock : Time
  clockSet : Bool
  power : PowerState
  f : Nat
  i : Nat
  settle : Nat
  alert : Nat
  outcome : Option DropOutcome
  outcomeSlot : BitVec 32
  caught : Nat
  settleTimer : Timer
  peak : Nat
  peakAt : Sample
  settleLost : Bool
deriving DecidableEq, Repr

/-- The Motion Unit (R103, R105). -/
structure Motion where
  state : MotionState
  thresholds : Thresholds
  slot : BitVec 32
  candidate : Option Candidate
  fall : Option Fall
  nextDrop : Nat
  lastDrop : Nat
  missingRun : Nat
  goodRun : Nat
  goodTotal : Nat
  missingTotal : Nat
  last : Sample
  lastTime : Time
  restartLeft : Nat
  restartBase : Time
  restartCount : Nat
  faultStart : Time
  parkTimer : Option Timer
  disarmPending : Bool
deriving DecidableEq, Repr

/-- What the history array is doing (R131). -/
inductive ArrayOp
  | idle
  | program (sector slot seq : Nat) (image : List Byte)
  | erase (sector attempt : Nat) (start : Time)
  | boundary (target attempt oldB : Nat)
deriving DecidableEq, Repr

/-- A NOTE between becoming ACTIVE and the end of its storing (R143). -/
structure Note where
  record : HistRecord
  started : Bool
  entry : Option EntryId
deriving DecidableEq, Repr

/-- A HISTORY_PROTECT between becoming ACTIVE and the end of its step (R138). -/
structure Protect where
  target : Nat
  started : Bool
  entry : Option EntryId
deriving DecidableEq, Repr

/-- The History Unit (R127 to R142). `array` holds sectors 0 to 62 byte by byte, at 2048 × sector + offset. -/
structure History where
  array : List Host.Cell
  marks : BitVec 55
  boundary : Nat
  headSector : Nat
  headSlot : Nat
  nextSeq : Nat
  lost : Nat
  list : List HistRecord
  op : ArrayOp
  eraseDue : Bool
  tries : Nat
  note : Option Note
  protect : Option Protect
  fault : Option HistoryCause
  scanning : Bool
  mapped : Option Nat
deriving DecidableEq, Repr

/-- A notice slot (R179); its kind byte is its number and its consumed byte reads 0 between events. -/
structure NoticeSlot where
  fresh : Bool
  raised : Nat
  saturated : Bool
  time : Time
  payload : List Byte
deriving DecidableEq, Repr

/-- A notice route (R182). -/
structure Route where
  notify : Bool
  group : NoticeGroup
deriving DecidableEq, Repr

/-- The Request Engine (R164, R166): the state word of every entry, the intake queue oldest first, and the ACTIVE
entry of each unit. -/
structure Requests where
  entries : Vector EntryState 16
  intake : List EntryId
  actPower : Option EntryId
  actDisplay : Option EntryId
  actMotion : Option EntryId
  actHistory : Option EntryId
deriving DecidableEq, Repr

/-- The setup values in force (R173). -/
structure Setup where
  period : Nat
  swapped : Bool
  inverted : Bool
  minOn : Nat
  debounce : Nat
  onDelay : Nat
  nominal : Nat
  rideLimit : Nat
  prepTimeout : Nat
deriving DecidableEq, Repr

/-- The Link Port (R148 to R163). `memory` holds every byte of the exchange memory but the entry state words and the
notice slots, which `Requests.entries` and `State.notices` hold. -/
structure Link where
  up : Bool
  platformLow : Bool
  memory : List Host.Cell
  attn : BitVec 5
  mask : BitVec 5
  arm : Bool
  setupTaken : Bool
  lastRefused : Half
  resetCause : ResetCause
  readData : Half
deriving DecidableEq, Repr

/-- What the part knows of one live page's updates (R185). -/
structure PageCtl where
  cause : Bool
  busy : Bool
  again : Bool
  base : Time
deriving DecidableEq, Repr

/-- The four live pages' update control (R185). -/
structure Pages where
  part : PageCtl
  power : PageCtl
  display : PageCtl
  motion : PageCtl
deriving DecidableEq, Repr

/-- The service clock (R175): seconds, set flag, and the part time its present second began. -/
structure Clock where
  seconds : Time
  set : Bool
  base : Time
deriving DecidableEq, Repr

/-- The machine: the command queue, the supply, the part time, and the ten blocks of chapter 2. -/
structure State where
  pending : List Instr
  powered : Bool
  time : Time
  draws : Nat
  clock : Clock
  setup : Setup
  src : Source
  gauge : Gauge
  bright : Bright
  drv : Driver
  motion : Motion
  hist : History
  req : Requests
  notices : Vector NoticeSlot 32
  routes : Vector Route 23
  link : Link
  pages : Pages
deriving DecidableEq, Repr

/-! ## Cold-start values -/

/-- An input right after cold start: accepted low; a raw level that differs is a candidate from time 0 (R2). -/
def Input.cold (raw : Bool) : Input :=
  { raw := raw, acc := false, cand := if raw then some 0 else none }

/-- A bay record after cold start (R29), with its two raw contact levels
(DESIGN CHOICE where R29 gives no value, assumption 15). -/
def Bay.cold (present latch : Bool) : Bay where
  state := .empty
  prior := none
  priorRel := none
  strandedAtLoss := false
  present := Input.cold present
  latch := Input.cold latch
  qualStart := 0
  clean := false
  monitor := .released
  tripRun := 0
  releaseRun := 0
  depleted := false
  latchOpen := false
  chargeSel := false
  heldMs := 0
  heldSince := none
  outcome := none
  mv := 0
  code := 0
  prepTimer := none
  prepStart := 0

/-- The pins whose levels come from outside the part, and outlive its supply. -/
structure Pins where
  presentA : Bool
  latchA : Bool
  presentB : Bool
  latchB : Bool
  chgDone : Bool
  lines : SysrunLines
  platformLow : Bool
deriving DecidableEq, Repr

/-- The system state a line combination stands for (R28). -/
def sysOfLines : SysrunLines → SysState
  | .run => .run
  | .standby => .standby
  | .off => .off
  | .other => .off

/-- The Source Controller after cold start (R29, R49) (DESIGN CHOICE where they give no value, assumption 15). -/
def Source.cold (p : Pins) : Source where
  bayA := Bay.cold p.presentA p.latchA
  bayB := Bay.cold p.presentB p.latchB
  bridgeMonitor := .low
  bridgeBelow := 0
  bridgeNotBelow := 0
  bridgeHigh := 0
  cutoff := false
  brChg := false
  bridgeMv := 0
  dcPresent := false
  dcRun := 0
  dcMv := 0
  feeding := .empty
  power := .exhausted
  exhLatch := false
  policy := .drainLower
  warn := 10
  hold := false
  deferred := false
  interrupted := []
  listOut := none
  prep := { pending := false, bay := .bayA, latchNote := false, request := none, since := 0 }
  rideTimer := none
  chgDone := Input.cold p.chgDone
  sysLines := p.lines
  sysState := .off
  sysCand := if sysOfLines p.lines = .off then none else some 0
  holdups := []

/-- The Charge Gauge after cold start (R65). -/
def Gauge.cold : Gauge where
  recA := none
  recB := none
  keptA := none
  keptB := none
  window := []
  secSum := 0
  secCount := 0

/-- The Brightness Unit after cold start (R66, R87). -/
def Bright.cold : Bright where
  gain := .low
  discard := false
  saturated := false
  lastCode := 0
  rawLux := 0
  filtered := 0
  filterValid := false
  curve := Config.factoryCurve
  origin := .factory
  staged := none
  mode := .auto
  manual := 500
  offset := 0
  battCeil := 700
  bridgeCeil := 200
  threshold := 20000
  reserve := 30
  attack := 1
  release := 4
  ramp := 20
  allowance := false
  curveLevel := 40
  request := 40
  ceiling := 0
  target := 0
  current := 0
  compare := 0
  judgedSoc := 0

/-- The Output Driver after cold start (R88, R95, R101). -/
def Driver.cold : Driver where
  state := .dark
  configured := false
  sys := .off
  levelZero := true
  nextCompare := 0
  activeCompare := 0
  period := 600
  swapped := false
  inverted := false
  nextPeriod := 600
  nextSwapped := false
  nextInverted := false
  delayStart := 0
  delayLen := 200
  active := none
  waitSwap := none
  waitDrop := none
  waitHost := none

/-- The default drop thresholds (R121). -/
def Thresholds.default : Thresholds where
  f := 44
  n := 24
  g := 2
  i := 500
  settle := 250
  park := 500
  alert := 500

/-- The Motion Unit after cold start (R103, R126): WATCHING, with the first link restart in its four slots (R105). -/
def Motion.cold : Motion where
  state := .watching
  thresholds := Thresholds.default
  slot := 0
  candidate := none
  fall := none
  nextDrop := 1
  lastDrop := 0
  missingRun := 0
  goodRun := 0
  goodTotal := 0
  missingTotal := 0
  last := { x := 0, y := 0, z := 0 }
  lastTime := 0
  restartLeft := 4
  restartBase := 0
  restartCount := 0
  faultStart := 0
  parkTimer := none
  disarmPending := false

/-- The RESTART record as it stands until the scan completes its payload (R140). -/
def HistRecord.restart (payload : List Byte) : HistRecord :=
  { kind := .restart, clockUnset := true, clock := 0, payload := payload }

/-- The boundary a field of marks gives (R137): 63 less the number of the highest programmed mark. -/
def boundaryOf (marks : BitVec 55) : Nat :=
  63 - ((List.range 55).foldl (fun h i => if marks.getLsbD i then i + 1 else h) 0)

/-- The History Unit after cold start (R147): the array and the boundary field are kept, and the scan runs. -/
def History.cold (array : List Host.Cell) (marks : BitVec 55) : History where
  array := array
  marks := marks
  boundary := boundaryOf marks
  headSector := 0
  headSlot := 0
  nextSeq := 0
  lost := 0
  list := [HistRecord.restart []]
  op := .idle
  eraseDue := false
  tries := 0
  note := none
  protect := none
  fault := none
  scanning := true
  mapped := none

/-- The Request Engine after cold start (R164). -/
def Requests.cold : Requests where
  entries := Vector.replicate 16 .free
  intake := []
  actPower := none
  actDisplay := none
  actMotion := none
  actHistory := none

/-- The default setup values (R173). -/
def Setup.default : Setup where
  period := 600
  swapped := false
  inverted := false
  minOn := 2
  debounce := 3
  onDelay := 200
  nominal := 6000
  rideLimit := 120
  prepTimeout := 60

/-- A cleared notice slot (R179). -/
def NoticeSlot.cleared : NoticeSlot :=
  { fresh := false, raised := 0, saturated := false, time := 0, payload := List.replicate 8 0 }

/-- The default route of notice kind `k` (R182): kinds 13 to 19 in group B, the others in group A. -/
def Route.default (k : Nat) : Route :=
  { notify := true, group := if 13 ≤ k ∧ k ≤ 19 then .groupB else .groupA }

/-- The default route map (R182). -/
def defaultRoutes : Vector Route 23 :=
  Vector.ofFn (fun k : Fin 23 => Route.default k.val)

/-- The Link Port when the supply comes up and the link has not started (R149, R163). -/
def Link.cold (platformLow : Bool) : Link where
  up := false
  platformLow := platformLow
  memory := []
  attn := 0
  mask := 0
  arm := false
  setupTaken := false
  lastRefused := 0xFFFF
  resetCause := .cold
  readData := 0

/-- A page with no update running and no cause waiting (R185). -/
def PageCtl.cold : PageCtl := { cause := false, busy := false, again := false, base := 0 }

/-- The whole part right after its supply comes up, with what survives a loss of supply: the array and the boundary
field (R147), the levels of its pins, and the model's own queue and draw counter
(DESIGN CHOICE, assumptions 15 and 28). -/
def State.cold (pending : List Instr) (draws : Nat) (pins : Pins) (array : List Host.Cell) (marks : BitVec 55) :
    State where
  pending := pending
  powered := true
  time := 0
  draws := draws
  clock := { seconds := 0, set := false, base := 0 }
  setup := Setup.default
  src := Source.cold pins
  gauge := Gauge.cold
  bright := Bright.cold
  drv := Driver.cold
  motion := Motion.cold
  hist := History.cold array marks
  req := Requests.cold
  notices := Vector.replicate 32 NoticeSlot.cleared
  routes := defaultRoutes
  link := Link.cold pins.platformLow
  pages := { part := PageCtl.cold, power := PageCtl.cold, display := PageCtl.cold, motion := PageCtl.cold }

/-- The pins at `State.reset`: empty bays, latches open, the charger not done, SYSRUN at OFF, PLTRST# high
(DESIGN CHOICE, assumption 1). -/
def Pins.reset : Pins where
  presentA := false
  latchA := false
  presentB := false
  latchB := false
  chgDone := false
  lines := .off
  platformLow := false

/-- The machine right after reset: a cold start (R29) of a part whose array was never written (R127, R137: every
byte 0xFF, no mark programmed). -/
def State.reset : State := State.cold [] 0 Pins.reset [] 0

end Sys2Proof.Machine
end

