-- ==== Sys2Proof/Machine/Operands.lean ====
section
/-! DEFINITION. Field encoding (R190, 12.6), request kinds (12.3), offsets (R150), clamping and interpolation. -/

namespace Sys2Proof

/-- Bay codes (12.6). -/
def BayId.code : BayId → Nat
  | .bayA => 0
  | .bayB => 1

/-- The first byte of a live page. -/
def PageId.base : PageId → Nat
  | .part => 0x0000
  | .power => 0x0700
  | .display => 0x0800
  | .motion => 0x0880

/-- Where a live page holds its close count: its last two bytes (12.5). -/
def PageId.closeAt : PageId → Nat
  | .part => 0x0000 + 254
  | .power => 0x0700 + 254
  | .display => 0x0800 + 126
  | .motion => 0x0880 + 126

/-- The period of a page's periodic update in ms (R185); the part page has none. -/
def PageId.period : PageId → Option Nat
  | .part => none
  | .power => some 1000
  | .display => some 100
  | .motion => some 100

end Sys2Proof

namespace Sys2Proof.Machine

/-! ## Bytes (R190) -/

/-- The low `n` bytes of `v`, little-endian. -/
def leBytes : Nat → Nat → List Byte
  | 0, _ => []
  | n + 1, v => BitVec.ofNat 8 v :: leBytes n (v / 256)

/-- `v` in `n` bytes, written at the largest value the width holds when it is larger (R190). -/
def le (n v : Nat) : List Byte := leBytes n (min v (256 ^ n - 1))

/-- A signed quantity in two's complement at `n` bytes (R190). -/
def leInt (n : Nat) (v : Int) : List Byte := leBytes n (v % (256 ^ n : Nat)).toNat

/-- The value of little-endian bytes. -/
def fromLe : List Byte → Nat
  | [] => 0
  | b :: bs => b.toNat + 256 * fromLe bs

/-- Exactly `n` bytes: `bs` cut or followed by `fill`. -/
def padTo (n : Nat) (fill : Byte) (bs : List Byte) : List Byte :=
  (bs ++ List.replicate n fill).take n

/-- A flag as one byte. -/
def flagByte (x : Bool) : List Byte := [if x then 1 else 0]

/-- Flags from bit 0 upward in the order given (R190). -/
def flagBits : List Bool → Nat
  | [] => 0
  | x :: xs => (if x then 1 else 0) + 2 * flagBits xs

/-- A field that may hold no value reads 0xFF (12.6). -/
def optByte (x : Option Nat) : List Byte := le 1 (x.getD 0xFF)

/-! ## Codes (12.6) -/

def BayState.code : BayState → Nat
  | .empty => 0
  | .seated => 1
  | .qualifying => 2
  | .ready => 3
  | .feeding => 4
  | .swapPrepared => 5
  | .releasing => 6
  | .held => 7
  | .fault => 8

def Feed.code : Feed → Nat
  | .empty => 0
  | .bayA => 1
  | .bayB => 2
  | .dc => 3
  | .bridge => 4

def PowerState.code : PowerState → Nat
  | .dc => 0
  | .pack => 1
  | .bridge => 2
  | .exhausted => 3

def SysState.code : SysState → Nat
  | .run => 0
  | .standby => 1
  | .off => 2

def Policy.code : Policy → Nat
  | .sequential => 0
  | .drainLower => 1
  | .balanced => 2

/-- The policy an argument names, if it names one (R19). -/
def policyOf : Nat → Option Policy
  | 0 => some .sequential
  | 1 => some .drainLower
  | 2 => some .balanced
  | _ => none

/-- The bay an argument names, if it names one (R32). -/
def bayOf : Nat → Option BayId
  | 0 => some .bayA
  | 1 => some .bayB
  | _ => none

/-- The mode an argument names, if it names one (R76). -/
def modeOf : Nat → Option Mode
  | 0 => some .auto
  | 1 => some .manual
  | _ => none

/-- A two-valued argument: off or on, normal or swapped (12.6). -/
def switchOf : Nat → Option Bool
  | 0 => some false
  | 1 => some true
  | _ => none

/-- The notice group an argument names (R176). -/
def groupOf : Nat → Option NoticeGroup
  | 0 => some .groupA
  | 1 => some .groupB
  | _ => none

def NoticeGroup.code : NoticeGroup → Nat
  | .groupA => 0
  | .groupB => 1

def BridgeMonitor.code : BridgeMonitor → Nat
  | .low => 0
  | .recovering => 1
  | .ready => 2

def HoldOutcome.code : HoldOutcome → Nat
  | .returned => 0
  | .removed => 1

def HoldupCause.code : HoldupCause → Nat
  | .rideThrough => 0
  | .bridgeTrip => 1
  | .bridgeCutoff => 2
  | .sourceLost => 3

def Gain.code : Gain → Nat
  | .high => 0
  | .low => 1

def CurveOrigin.code : CurveOrigin → Nat
  | .factory => 0
  | .host => 1

def Mode.code : Mode → Nat
  | .auto => 0
  | .manual => 1

def BacklightState.code : BacklightState → Nat
  | .dark => 0
  | .delay => 1
  | .framing => 2

def GroupClass.code : GroupClass → Nat
  | .swap => 0
  | .drop => 1
  | .host => 2

def MotionState.code : MotionState → Nat
  | .disarmed => 0
  | .watching => 1
  | .falling => 2
  | .settling => 3
  | .fault => 4

def DropOutcome.code : DropOutcome → Nat
  | .impact => 0
  | .caught => 1
  | .abandoned => 2
  | .sensorLost => 3

def MotionCause.code : MotionCause → Nat
  | .watchLost => 0
  | .fallLost => 1
  | .settleLost => 2

def RecordKind.code : RecordKind → Nat
  | .drop => 0
  | .swap => 1
  | .unplanned => 2
  | .holdup => 3
  | .note => 4
  | .clock => 5
  | .boundary => 6
  | .restart => 7

def HistoryCause.code : HistoryCause → Nat
  | .erase => 0
  | .boundary => 1
  | .sequence => 2

def ResetCause.code : ResetCause → Nat
  | .cold => 0
  | .platform => 1
  | .link => 2

/-- Why a history record was lost (R146). -/
inductive LostReason
  | full | program | fault
deriving DecidableEq, Repr

def LostReason.code : LostReason → Nat
  | .full => 0
  | .program => 1
  | .fault => 2

/-- Why the allowance changed (R78). -/
inductive AllowanceCause
  | lux | soc | powerState | settings
deriving DecidableEq, Repr

def AllowanceCause.code : AllowanceCause → Nat
  | .lux => 0
  | .soc => 1
  | .powerState => 2
  | .settings => 3

/-- Why a staged curve is not valid (R72). -/
inductive CurveReason
  | count | luxRange | luxOrder | levelRange | levelOrder
deriving DecidableEq, Repr

def CurveReason.code : CurveReason → Nat
  | .count => 0
  | .luxRange => 1
  | .luxOrder => 2
  | .levelRange => 3
  | .levelOrder => 4

/-- Entry state words (12.6). -/
def EntryState.word : EntryState → Half
  | .free => 0x0F0F
  | .posted => 0x5050
  | .active => 0xA0A0
  | .done => 0xD0D0

/-- The action code WITHDRAW (12.6). -/
def withdrawWord : Half := 0x7070

/-- Result codes (R171, 12.6). -/
inductive ResultCode
  | ok | clamped | badKind | badArg | wrongState | alreadySet | noSource | isProtected | busy | withdrawn
  | cancelled | displaced | tooLate | notFound | abandoned | fault
deriving DecidableEq, Repr

def ResultCode.code : ResultCode → Nat
  | .ok => 0
  | .clamped => 1
  | .badKind => 2
  | .badArg => 3
  | .wrongState => 4
  | .alreadySet => 5
  | .noSource => 6
  | .isProtected => 7
  | .busy => 8
  | .withdrawn => 9
  | .cancelled => 10
  | .displaced => 11
  | .tooLate => 12
  | .notFound => 13
  | .abandoned => 14
  | .fault => 15

/-- The twenty requests (12.3). -/
inductive ReqKind
  | setup | setClock | noticeRoute | cancel | setSourcePolicy | swapPrepare | swapAbort | packSetCapacity
  | setPackWarn | installCurve | setBrightness | setCeilings | setFilter | indicatorPulse | setDropThresholds
  | motionArm | historyAppendNote | historyMap | historyProtect | historyLocate
deriving DecidableEq, Repr

/-- Kind codes (12.3). -/
def ReqKind.code : ReqKind → Nat
  | .setup => 0x01
  | .setClock => 0x02
  | .noticeRoute => 0x03
  | .cancel => 0x04
  | .setSourcePolicy => 0x10
  | .swapPrepare => 0x11
  | .swapAbort => 0x12
  | .packSetCapacity => 0x13
  | .setPackWarn => 0x14
  | .installCurve => 0x20
  | .setBrightness => 0x21
  | .setCeilings => 0x22
  | .setFilter => 0x23
  | .indicatorPulse => 0x24
  | .setDropThresholds => 0x30
  | .motionArm => 0x31
  | .historyAppendNote => 0x40
  | .historyMap => 0x41
  | .historyProtect => 0x42
  | .historyLocate => 0x43

/-- All requests, for finding a kind code. -/
def ReqKind.all : List ReqKind :=
  [.setup, .setClock, .noticeRoute, .cancel, .setSourcePolicy, .swapPrepare, .swapAbort, .packSetCapacity,
    .setPackWarn, .installCurve, .setBrightness, .setCeilings, .setFilter, .indicatorPulse, .setDropThresholds,
    .motionArm, .historyAppendNote, .historyMap, .historyProtect, .historyLocate]

/-- The request a kind code names, if any (R165, 12.3). -/
def reqKindOf (code : Nat) : Option ReqKind := ReqKind.all.find? (fun k => k.code == code)

/-- The unit that serves a request; `none` is the LINK unit (9.9). -/
def ReqKind.unit : ReqKind → Option UnitId
  | .setup => none
  | .setClock => none
  | .noticeRoute => none
  | .cancel => none
  | .setSourcePolicy => some .power
  | .swapPrepare => some .power
  | .swapAbort => some .power
  | .packSetCapacity => some .power
  | .setPackWarn => some .power
  | .installCurve => some .display
  | .setBrightness => some .display
  | .setCeilings => some .display
  | .setFilter => some .display
  | .indicatorPulse => some .display
  | .setDropThresholds => some .motion
  | .motionArm => some .motion
  | .historyAppendNote => some .history
  | .historyMap => some .history
  | .historyProtect => some .history
  | .historyLocate => some .history

/-! ## Clamping (Conventions, "Clamping") -/

/-- `v` brought into `lo..hi`. -/
def clamp (lo hi v : Nat) : Nat := max lo (min hi v)

/-- Whether `v` had to be clamped. -/
def wasClamped (lo hi v : Nat) : Bool := decide (v < lo) || decide (hi < v)

/-- A signed value brought into `lo..hi`. -/
def clampInt (lo hi v : Int) : Int := max lo (min hi v)

/-- OK, or CLAMPED when some argument was clamped (R171). -/
def okOrClamped (flags : Nat) : ResultCode := if flags = 0 then .ok else .clamped

/-! ## Offsets in the exchange memory (R150, 12.2) -/

/-- The first byte of entry `e`. -/
def entryBase (e : EntryId) : Nat := 0x0100 + 64 * e.val

/-- The first byte of notice slot `k`. -/
def slotBase (k : Fin 32) : Nat := 0x0500 + 16 * k.val

/-- The curve staging area (R150). -/
def stagingBase : Nat := 0x0900

/-- The first byte of drop table place `k` (12.2). -/
def dropBase (k : Nat) : Nat := 0x0A00 + 64 * k

/-- The history window (R150). -/
def windowBase : Nat := 0x1800

/-! ## Straight-line tables (3.3, R74) -/

/-- Straight-line interpolation in a table of (x, y) points, flat outside it, the division truncated. -/
def interpolate : List (Nat × Nat) → Nat → Nat
  | [], _ => 0
  | [p], _ => p.2
  | p :: q :: rest, x =>
    if x ≤ p.1 then p.2
    else if x < q.1 then p.2 + (q.2 - p.2) * (x - p.1) / (q.1 - p.1)
    else interpolate (q :: rest) x

/-- The floor square root of a number below 2^32, bit by bit (Conventions, "Arithmetic"). -/
def isqrtFrom : Nat → Nat → Nat → Nat
  | 0, root, _ => root
  | k + 1, root, n => isqrtFrom k (if (root + 2 ^ k) * (root + 2 ^ k) ≤ n then root + 2 ^ k else root) n

def isqrt (n : Nat) : Nat := isqrtFrom 16 0 n

/-- The ceiling of `n / 2^k` (R70). -/
def ceilShift (n k : Nat) : Nat := (n + 2 ^ k - 1) / 2 ^ k

end Sys2Proof.Machine
end

