-- ==== Sys2Proof/Machine/Ops.lean ====
section
/-! DEFINITION. Named operations over memory, timers, bays and entries, and the finishing of a request. -/

namespace Sys2Proof

/-- The other bay. -/
def BayId.other : BayId → BayId
  | .bayA => .bayB
  | .bayB => .bayA

/-- The bay as a member of the feeding set. -/
def BayId.feed : BayId → Machine.Feed
  | .bayA => .bayA
  | .bayB => .bayB

end Sys2Proof

namespace Sys2Proof.Machine

/-! ## Byte memories: (address, byte) pairs, addresses strictly rising, no pair equal to the default -/

/-- What an unlisted byte of the exchange memory reads as: link start zeroes it (R149). -/
def exchangeDefault : Byte := 0

/-- What an unlisted byte of the history array reads as: an erased byte (R127). -/
def arrayDefault : Byte := 0xFF

/-- The byte at `a` of a memory whose unlisted bytes read as `d`. -/
def memRead (d : Byte) : List Host.Cell → Nat → Byte
  | [], _ => d
  | (k, v) :: m, a => if a < k then d else if a = k then v else memRead d m a

/-- Byte `a` becomes `b`; the canonical form is kept. -/
def memWrite (d : Byte) : List Host.Cell → Nat → Byte → List Host.Cell
  | [], a, b => if b = d then [] else [(a, b)]
  | (k, v) :: m, a, b =>
    if a < k then (if b = d then (k, v) :: m else (a, b) :: (k, v) :: m)
    else if a = k then (if b = d then m else (a, b) :: m)
    else (k, v) :: memWrite d m a b

/-- The `n` bytes from `a` on. -/
def memReadBytes (d : Byte) (m : List Host.Cell) (a n : Nat) : List Byte :=
  (List.range n).map (fun i => memRead d m (a + i))

/-- The bytes `bs` are written from `a` on. -/
def memWriteBytes (d : Byte) : List Host.Cell → Nat → List Byte → List Host.Cell
  | m, _, [] => m
  | m, a, b :: bs => memWriteBytes d (memWrite d m a b) (a + 1) bs

/-- The canonical form from address `lo` on. -/
def memWfFrom (d : Byte) : Nat → List Host.Cell → Bool
  | _, [] => true
  | lo, (k, v) :: m => decide (lo ≤ k) && decide (v ≠ d) && memWfFrom d (k + 1) m

/-- The canonical form: addresses strictly rising, no entry equal to what an unlisted address reads as. -/
def memWf (d : Byte) (m : List Host.Cell) : Bool := memWfFrom d 0 m

/-! ## The exchange memory as the part reads and writes it -/

/-- The byte at offset `a`. -/
def State.xread (s : State) (a : Nat) : Byte := memRead exchangeDefault s.link.memory a

/-- The little-endian value of the `n` bytes from offset `a`. -/
def State.xreadLe (s : State) (a n : Nat) : Nat := fromLe (memReadBytes exchangeDefault s.link.memory a n)

/-- The bytes `bs` are written from offset `a` on. -/
def State.xwrite (s : State) (a : Nat) (bs : List Byte) : State :=
  { s with link.memory := memWriteBytes exchangeDefault s.link.memory a bs }

/-- The kind code in entry `e`'s body (12.2). -/
def State.kindCode (s : State) (e : EntryId) : Nat := s.xreadLe (entryBase e + 2) 2

/-- The `n`-byte argument at offset `k` of entry `e`'s parameter area (R191, 12.3). -/
def State.arg (s : State) (e : EntryId) (k n : Nat) : Nat := s.xreadLe (entryBase e + 8 + k) n

/-! ## Time -/

/-- Milliseconds from `start` to `now`, modulo 2^32. -/
def since (now start : Time) : Nat := (now - start).toNat

/-- The timer has run its length. -/
def Timer.due (t : Timer) (now : Time) : Bool := decide (t.len ≤ since now t.start)

/-- The time a timer has left. -/
def Timer.left (t : Timer) (now : Time) : Nat := t.len - since now t.start

/-- The time a timer has left, or 0 with the timer stopped (R186). -/
def timerLeft (t : Option Timer) (now : Time) : Nat :=
  match t with
  | none => 0
  | some t => t.left now

/-! ## Live page causes (R185) -/

/-- An update cause of page `p` has come in this event. -/
def State.touch (s : State) (p : PageId) : State :=
  match p with
  | .part => { s with pages.part.cause := true }
  | .power => { s with pages.power.cause := true }
  | .display => { s with pages.display.cause := true }
  | .motion => { s with pages.motion.cause := true }

/-- The update control of page `p`. -/
def State.page (s : State) (p : PageId) : PageCtl :=
  match p with
  | .part => s.pages.part
  | .power => s.pages.power
  | .display => s.pages.display
  | .motion => s.pages.motion

/-- The update control of page `p` becomes `c`. -/
def State.setPage (s : State) (p : PageId) (c : PageCtl) : State :=
  match p with
  | .part => { s with pages.part := c }
  | .power => { s with pages.power := c }
  | .display => { s with pages.display := c }
  | .motion => { s with pages.motion := c }

/-! ## Bays and gauge records -/

/-- The bay in the feeding set, if it is one. -/
def Feed.bay : Feed → Option BayId
  | .bayA => some .bayA
  | .bayB => some .bayB
  | .empty => none
  | .dc => none
  | .bridge => none

/-- Bay `b`'s record. -/
def State.bay (s : State) (b : BayId) : Bay :=
  match b with
  | .bayA => s.src.bayA
  | .bayB => s.src.bayB

/-- Bay `b`'s record becomes `x`. -/
def State.setBay (s : State) (b : BayId) (x : Bay) : State :=
  match b with
  | .bayA => { s with src.bayA := x }
  | .bayB => { s with src.bayB := x }

/-- Bay `b`'s gauge record, if it has one (R51). -/
def State.gaugeRec (s : State) (b : BayId) : Option GaugeRec :=
  match b with
  | .bayA => s.gauge.recA
  | .bayB => s.gauge.recB

/-- Bay `b`'s gauge record becomes `r`. -/
def State.setGaugeRec (s : State) (b : BayId) (r : Option GaugeRec) : State :=
  match b with
  | .bayA => { s with gauge.recA := r }
  | .bayB => { s with gauge.recB := r }

/-- Bay `b`'s kept capacity in mAs, if it has one (R55). -/
def State.kept (s : State) (b : BayId) : Option Nat :=
  match b with
  | .bayA => s.gauge.keptA
  | .bayB => s.gauge.keptB

/-- Bay `b`'s kept capacity becomes `k`. -/
def State.setKept (s : State) (b : BayId) (k : Option Nat) : State :=
  match b with
  | .bayA => { s with gauge.keptA := k }
  | .bayB => { s with gauge.keptB := k }

/-- The SoC of bay `b`, 0 with no record (R51). -/
def State.soc (s : State) (b : BayId) : Nat :=
  match s.gaugeRec b with
  | none => 0
  | some r => r.soc

/-- The remaining charge of bay `b` in mAh, 0 with no record (R56). -/
def State.remainingMah (s : State) (b : BayId) : Nat :=
  match s.gaugeRec b with
  | none => 0
  | some r => r.remaining / 3600

/-- The full capacity of bay `b` in mAh, 0 with no record (R56). -/
def State.fullMah (s : State) (b : BayId) : Nat :=
  match s.gaugeRec b with
  | none => 0
  | some r => r.full / 3600

/-- A raw level of an input: it starts a candidate, keeps it, or discards it (R2). -/
def Input.setRaw (i : Input) (now : Time) (level : Bool) : Input :=
  { i with
    raw := level
    cand := if level = i.acc then none else match i.cand with
      | some t => some t
      | none => some now }

/-- The raw level has differed from the accepted one for the whole window of 2^n ms (R2). -/
def Input.ripe (i : Input) (now : Time) (n : Nat) : Bool :=
  match i.cand with
  | none => false
  | some t => decide (i.raw ≠ i.acc) && decide (2 ^ n ≤ since now t)

/-- The raw level is accepted (R2). -/
def Input.accept (i : Input) : Input := { i with acc := i.raw, cand := none }

/-! ## Request entries (R164, R168) -/

/-- The state of entry `e`. -/
def State.entry (s : State) (e : EntryId) : EntryState := s.req.entries[e]

/-- Entry `e`'s state word becomes `x`. -/
def State.setEntry (s : State) (e : EntryId) (x : EntryState) : State :=
  { s with req.entries := s.req.entries.set e x }

/-- The ACTIVE entry of unit `u`. -/
def State.active (s : State) (u : UnitId) : Option EntryId :=
  match u with
  | .power => s.req.actPower
  | .display => s.req.actDisplay
  | .motion => s.req.actMotion
  | .history => s.req.actHistory

/-- The ACTIVE entry of unit `u` becomes `e`. -/
def State.setActive (s : State) (u : UnitId) (e : Option EntryId) : State :=
  match u with
  | .power => { s with req.actPower := e }
  | .display => { s with req.actDisplay := e }
  | .motion => { s with req.actMotion := e }
  | .history => { s with req.actHistory := e }

/-- The result bytes of an entry from offset 4: code, zero, flags, and the whole parameter area (12.2, R191). -/
def resultBytes (code : ResultCode) (flags : Nat) (data : List Byte) : List Byte :=
  le 1 code.code ++ [0] ++ le 2 flags ++ padTo 56 0 data

/-- Entry `e` is finished: the result, then DONE, then ATTN DONE (R168). -/
def finishEntry (e : EntryId) (code : ResultCode) (flags : Nat) (data : List Byte) (s : State) : State :=
  let s := s.xwrite (entryBase e + 4) (resultBytes code flags data)
  let s := s.setEntry e .done
  { s with link.attn := s.link.attn ||| 1 }

/-- The ACTIVE request of unit `u`, if it still has an entry, is finished (R168). -/
def finishUnit (u : UnitId) (code : ResultCode) (flags : Nat) (data : List Byte) (s : State) : State :=
  match s.active u with
  | none => s
  | some e => finishEntry e code flags data (s.setActive u none)

end Sys2Proof.Machine
end

