-- ==== Sys2Proof/Machine/Flags.lean ====
section
/-! DEFINITION. The attention flags (R157) and the outputs computed from the state: ATTN#, gates, SHUTDOWN_REQ#, PARK#, BL_EN, BL_PWM, IND. -/

namespace Sys2Proof.Machine

/-! ## ATTN (R157, 12.6): 0 DONE, 1 NOTICE_A, 2 NOTICE_B, 3 OWNERSHIP, 4 RESTART -/

def attnDone : BitVec 5 := 1
def attnNoticeA : BitVec 5 := 2
def attnNoticeB : BitVec 5 := 4
def attnOwnership : BitVec 5 := 8
def attnRestart : BitVec 5 := 16

/-- The flags `f` are set; a set flag stays set (R157). -/
def State.setAttn (s : State) (f : BitVec 5) : State := { s with link.attn := s.link.attn ||| f }

/-- ATTN# is asserted: ARM is 1 and a flag is set whose mask bit is 1 (R158). -/
def State.attnAsserted (s : State) : Bool := s.link.arm && decide (s.link.attn &&& s.link.mask ≠ 0)

/-! ## Board outputs -/

/-- FEED_A, FEED_B, FEED_DC, FEED_BR: the gate of a source is closed while it is the member (R13). -/
def State.gateClosed (s : State) (f : Feed) : Bool := decide (f ≠ .empty) && decide (s.src.feeding = f)

/-- CHGSEL_A, CHGSEL_B (R20). -/
def State.chgselOut (s : State) (b : BayId) : Bool := (s.bay b).chargeSel

/-- A bay is stranded: FEEDING with its latch-open flag set (R39). -/
def Bay.stranded (x : Bay) : Bool := decide (x.state = .feeding) && x.latchOpen

/-- SHUTDOWN_REQ# is asserted while the power state is EXHAUSTED or a bay is stranded (R47). -/
def State.shutdownRequested (s : State) : Bool :=
  decide (s.src.power = .exhausted) || s.src.bayA.stranded || s.src.bayB.stranded

/-- The shock hold as the Motion Unit drives it (6.3). -/
def State.shockHold (s : State) : Bool :=
  decide (s.motion.state = .falling) || decide (s.motion.state = .settling)

/-- PARK# is asserted while FALLING or SETTLING or while the park hold timer runs (6.3, R115). -/
def State.parkAsserted (s : State) : Bool := s.shockHold || s.motion.parkTimer.isSome

/-- ALS_GAIN follows the gain field (R68). -/
def State.alsGain (s : State) : Gain := s.bright.gain

/-- BL_EN is high in DELAY and FRAMING (5.2). -/
def State.blEn (s : State) : Bool := decide (s.drv.state ≠ .dark)

/-- The off level of BL_PWM (R92). -/
def State.offLevel (s : State) : Bool := s.drv.inverted

/-- The level of BL_PWM in the on-count phase (R92). -/
def State.onPhaseLevel (s : State) : Bool := (!s.drv.swapped) != s.drv.inverted

/-- The level of BL_PWM in the remaining phase (R92). -/
def State.remainingLevel (s : State) : Bool := s.drv.swapped != s.drv.inverted

/-- The level of BL_PWM `at` counts into the frame in progress; the off level outside FRAMING (R91, R92). -/
def State.blPwm (s : State) (count : Nat) : Bool :=
  match s.drv.state with
  | .framing => if count < s.drv.activeCompare then s.onPhaseLevel else s.remainingLevel
  | .dark => s.offLevel
  | .delay => s.offLevel

/-- IND is high in the on time of the active group (R96). -/
def State.ind (s : State) : Bool :=
  match s.drv.active with
  | none => false
  | some g => g.phaseOn

end Sys2Proof.Machine
end

