-- ==== Sys2Proof/Machine/Notice.lean ====
section
/-! DEFINITION. The Notice Unit: raising, consuming, clearing, and the route map (R179 to R183). -/

namespace Sys2Proof.Machine

/-- The 23 notice kinds (R183). -/
inductive NoticeKind
  | baySeated | bayReady | bayRemoved | bayFault | unplannedRelease | swapExpired | bridgeEngaged | bridgeLow
  | holdupExhausted | dcChange | packLow | chargeDone | capacityLearned | ceilingChange | sunlightAllowance
  | lightSaturated | freeFall | dropRecorded | motionFault | motionRecovered | historyWrap | historyFault | historyLost
deriving DecidableEq, Repr

/-- The slot of a kind (R183). -/
def NoticeKind.slot : NoticeKind → Fin 23
  | .baySeated => 0
  | .bayReady => 1
  | .bayRemoved => 2
  | .bayFault => 3
  | .unplannedRelease => 4
  | .swapExpired => 5
  | .bridgeEngaged => 6
  | .bridgeLow => 7
  | .holdupExhausted => 8
  | .dcChange => 9
  | .packLow => 10
  | .chargeDone => 11
  | .capacityLearned => 12
  | .ceilingChange => 13
  | .sunlightAllowance => 14
  | .lightSaturated => 15
  | .freeFall => 16
  | .dropRecorded => 17
  | .motionFault => 18
  | .motionRecovered => 19
  | .historyWrap => 20
  | .historyFault => 21
  | .historyLost => 22

/-- The slot as a place of the 32-slot table. -/
def NoticeKind.place (k : NoticeKind) : Fin 32 := k.slot.castLE (by decide)

/-- A slot after a raise (R180, steps 1 to 3). -/
def NoticeSlot.raise (x : NoticeSlot) (now : Time) (payload : List Byte) : NoticeSlot where
  fresh := true
  raised := if x.raised < 255 then x.raised + 1 else x.raised
  saturated := if x.raised < 255 then x.saturated else true
  time := now
  payload := padTo 8 0 payload

/-- A slot after a consume of `c` (R181). -/
def NoticeSlot.consume (x : NoticeSlot) (c : Nat) : NoticeSlot :=
  if x.raised ≤ c then { x with raised := 0, fresh := false, saturated := false }
  else { x with raised := x.raised - c }

/-- The attention flag a route sets: that of its group, or none with notify off (R180). -/
def Route.flag (r : Route) : BitVec 5 :=
  if r.notify then (match r.group with
    | .groupA => attnNoticeA
    | .groupB => attnNoticeB) else 0

/-- Kind `k` is raised with this payload (R180). -/
def raise (k : NoticeKind) (payload : List Byte) (s : State) : State :=
  { s with
    notices := s.notices.set k.place (s.notices[k.place].raise s.time payload)
    link.attn := s.link.attn ||| s.routes[k.slot].flag }

/-- A consume of `c` reaches slot `k` (R181). -/
def consumeSlot (k : Fin 32) (c : Nat) (s : State) : State :=
  { s with notices := s.notices.set k (s.notices[k].consume c) }

/-- The notice table is cleared and the route map takes its defaults (R179, R182). -/
def clearNotices (s : State) : State :=
  { s with notices := Vector.replicate 32 NoticeSlot.cleared, routes := defaultRoutes }

end Sys2Proof.Machine
end

