-- ==== Sys2Proof/Machine/Output.lean ====
section
/-! DEFINITION. The Output Driver: backlight states and frames, pulse groups and their arbiter (R88 to R102). -/

namespace Sys2Proof.Machine

/-! ## Backlight -/

/-- The backlight is held DARK (R89). -/
def Driver.heldDark (d : Driver) : Bool := !d.configured || decide (d.sys ≠ .run) || d.levelZero

/-- A frame begins: it takes up the next compare and the next frame parameters, the compare at most the period
(R91, R93). -/
def Driver.beginFrame (d : Driver) : Driver :=
  { d with
    state := .framing
    activeCompare := min d.nextCompare d.nextPeriod
    period := d.nextPeriod
    swapped := d.nextSwapped
    inverted := d.nextInverted }

/-- The backlight leaves DARK: DELAY begins, and with an on-delay of 0 the first frame too (R90). -/
def Driver.leaveDark (d : Driver) (now : Time) (onDelay : Nat) : Driver :=
  let d := { d with state := .delay, delayStart := now, delayLen := onDelay }
  if onDelay = 0 then d.beginFrame else d

/-- The conditions of R89 are judged. -/
def judgeBacklight (s : State) : State :=
  if s.drv.heldDark then { s with drv.state := .dark, drv.activeCompare := 0 }
  else match s.drv.state with
    | .dark => { s with drv := s.drv.leaveDark s.time s.setup.onDelay }
    | .delay => s
    | .framing => s

/-- The Brightness Unit hands over a compare with the level-zero mark (R93). -/
def handOver (compare : Nat) (zero : Bool) (s : State) : State :=
  judgeBacklight { s with drv.nextCompare := compare, drv.levelZero := zero }

/-- The driver takes an accepted SETUP (R94). -/
def driverSetup (s : State) : State :=
  judgeBacklight { s with
    drv.configured := true
    drv.nextPeriod := s.setup.period
    drv.nextSwapped := s.setup.swapped
    drv.nextInverted := s.setup.inverted
    drv.inverted := if s.drv.state = .framing then s.drv.inverted else s.setup.inverted }

/-! ## Pulse groups -/

/-- SWAP ranks highest, then DROP, then HOST (R97). -/
def GroupClass.rank : GroupClass → Nat
  | .swap => 2
  | .drop => 1
  | .host => 0

/-- A group starts: phase ON, no pulse completed (R96). -/
def Group.start (g : Group) (now : Time) : Group := { g with completed := 0, phaseOn := true, phaseStart := now }

/-- The SWAP group of a preparation (R34): 5 pulses, 200 ms on and 200 ms off. -/
def swapGroup : Group :=
  { cls := .swap, count := 5, onMs := 200, offMs := 200, completed := 0, phaseOn := false, phaseStart := 0, entry := none, flags := 0 }

/-- The DROP group (R118): 3 pulses, 100 ms on and 100 ms off. -/
def dropGroup : Group :=
  { cls := .drop, count := 3, onMs := 100, offMs := 100, completed := 0, phaseOn := false, phaseStart := 0, entry := none, flags := 0 }

/-- A HOST group that ends finishes its request, if it still has an entry, with the pulses completed (R97 to R100). -/
def endHostRequest (g : Group) (code : ResultCode) (flags : Nat) (s : State) : State :=
  match g.entry with
  | none => s
  | some _ => finishUnit .display code flags (le 1 g.completed) s

/-- The waiting place of a class (R88). -/
def Driver.waiting (d : Driver) : GroupClass → Option Group
  | .swap => d.waitSwap
  | .drop => d.waitDrop
  | .host => d.waitHost

/-- The waiting place of a class holds `g`. -/
def State.setWaiting (s : State) (c : GroupClass) (g : Option Group) : State :=
  match c with
  | .swap => { s with drv.waitSwap := g }
  | .drop => { s with drv.waitDrop := g }
  | .host => { s with drv.waitHost := g }

/-- Group `g` takes its class's waiting place; one waiting there is discarded (R97). -/
def waitGroup (g : Group) (s : State) : State :=
  let s := match s.drv.waiting g.cls with
    | none => s
    | some old => endHostRequest { old with completed := 0 } .displaced 0 s
  s.setWaiting g.cls (some g)

/-- A pulse group is given to the arbiter (R97). -/
def giveGroup (g : Group) (s : State) : State :=
  match s.drv.active with
  | none => { s with drv.active := some (g.start s.time) }
  | some a =>
    if a.cls.rank < g.cls.rank then
      let s := endHostRequest a .displaced 0 s
      { s with drv.active := some (g.start s.time) }
    else waitGroup g s

/-- With no active group, the first waiting group in class order starts (R98). -/
def startWaiting (s : State) : State :=
  match s.drv.waitSwap with
  | some g => { s with drv.active := some (g.start s.time), drv.waitSwap := none }
  | none =>
    match s.drv.waitDrop with
    | some g => { s with drv.active := some (g.start s.time), drv.waitDrop := none }
    | none =>
      match s.drv.waitHost with
      | some g => { s with drv.active := some (g.start s.time), drv.waitHost := none }
      | none => { s with drv.active := none }

/-- The active group ends by running its count (R98). -/
def groupRan (g : Group) (s : State) : State :=
  startWaiting (endHostRequest g (okOrClamped g.flags) g.flags s)

/-- The HOST group there is, active or waiting, ends with this result (R100), or with none when abandoned (R101). -/
def endHostGroup (result : Option ResultCode) (s : State) : State :=
  let tell (g : Group) (s : State) : State :=
    match result with
    | none => s
    | some code => endHostRequest g code 0 s
  match s.drv.waitHost with
  | some g => tell g { s with drv.waitHost := none }
  | none =>
    match s.drv.active with
    | none => s
    | some g => if g.cls = .host then startWaiting (tell g s) else s

/-- The on time of the pulse in progress has run (R96). -/
def Group.onEnded (g : Group) (now : Time) : Bool := g.phaseOn && decide (g.onMs ≤ since now g.phaseStart)

/-- The off time of the pulse in progress has run (R96). -/
def Group.offEnded (g : Group) (now : Time) : Bool := !g.phaseOn && decide (g.offMs ≤ since now g.phaseStart)

/-- The on time of the active group's pulse ends: OFF, one more pulse completed (R96). -/
def onTimeEnd (s : State) : State :=
  match s.drv.active with
  | none => s
  | some g =>
    if g.onEnded s.time then
      { s with drv.active := some { g with phaseOn := false, completed := g.completed + 1, phaseStart := s.time } }
    else s

/-- The off time of the active group's pulse ends: the next pulse, or the end of the group (R96, R98). -/
def offTimeEnd (s : State) : State :=
  match s.drv.active with
  | none => s
  | some g =>
    if g.offEnded s.time then
      if g.completed = g.count then groupRan g s
      else { s with drv.active := some { g with phaseOn := true, phaseStart := s.time } }
    else s

/-- The backlight on-delay expires and FRAMING begins with its first frame (R90). -/
def delayExpiry (s : State) : State :=
  match s.drv.state with
  | .delay => if s.drv.delayLen ≤ since s.time s.drv.delayStart then { s with drv := s.drv.beginFrame } else s
  | .dark => s
  | .framing => s

/-- A frame ends and the next begins (R91). -/
def frameBoundary (s : State) : State :=
  match s.drv.state with
  | .framing => { s with drv := s.drv.beginFrame }
  | .dark => s
  | .delay => s

end Sys2Proof.Machine
end

