-- ==== Sys2Proof/Machine/Brightness.lean ====
section
/-! DEFINITION. The Brightness Unit: sampling, filter, curve, ceilings, allowance, evaluation, ramp, compare (R66 to R87). -/

namespace Sys2Proof.Machine

/-- The SoC of the feeding pack, or 0 when no bay feeds (R78, R86). -/
def State.feedingSoc (s : State) : Nat :=
  match s.src.feeding.bay with
  | none => 0
  | some b => s.soc b

/-- T7 (R78). -/
def Bright.t7 (x : Bright) : Nat := x.threshold * 7 / 8

/-- The off allowance turns on (R78). -/
def Bright.turnsOn (x : Bright) (power : PowerState) (soc : Nat) : Bool :=
  decide (power = .pack) && decide (x.threshold ≤ x.filtered) && decide (x.reserve ≤ soc)

/-- The condition that turns an on allowance off, the first of POWER_STATE, SOC and LUX that holds (R78). -/
def Bright.turnsOff (x : Bright) (power : PowerState) (soc : Nat) : Option AllowanceCause :=
  if power ≠ .pack then some .powerState
  else if soc + 2 < x.reserve then some .soc
  else if x.filtered < x.t7 then some .lux
  else none

/-- The allowance changes to `on`, with its notice (R78). -/
def changeAllowance (on : Bool) (cause : AllowanceCause) (s : State) : State :=
  raise .sunlightAllowance
    (flagByte on ++ le 1 cause.code ++ le 3 s.bright.filtered ++ le 1 s.bright.judgedSoc)
    { s with bright.allowance := on }

/-- The allowance is judged (R78); a change in a settings evaluation names the cause SETTINGS. -/
def judgeAllowance (settings : Bool) (s : State) : State :=
  let s := { s with bright.judgedSoc := s.feedingSoc }
  if s.bright.allowance then
    match s.bright.turnsOff s.src.power s.bright.judgedSoc with
    | none => s
    | some cause => changeAllowance false (if settings then .settings else cause) s
  else if s.bright.turnsOn s.src.power s.bright.judgedSoc then
    changeAllowance true (if settings then .settings else .lux) s
  else s

/-- Stage 4, the request (R75). -/
def Bright.requestOf (x : Bright) (curveLevel : Nat) : Nat :=
  match x.mode with
  | .auto => (clampInt 0 1000 (curveLevel + x.offset)).toNat
  | .manual => x.manual

/-- Stage 5, the ceiling (R77). -/
def Bright.ceilingOf (x : Bright) (power : PowerState) : Nat :=
  match power with
  | .dc => 1000
  | .pack => if x.allowance then 1000 else x.battCeil
  | .bridge => x.bridgeCeil
  | .exhausted => 0

/-- Stages 3 to 5: curve, request, ceiling and target; a changed ceiling raises CEILING_CHANGE and updates the page
(R74, R75, R77, R79). -/
def runChain (s : State) : State :=
  let level := interpolate s.bright.curve s.bright.filtered
  let request := s.bright.requestOf level
  let ceiling := s.bright.ceilingOf s.src.power
  let before := s.bright.ceiling
  let s := { s with
    bright.curveLevel := level
    bright.request := request
    bright.ceiling := ceiling
    bright.target := min request ceiling }
  if ceiling = before then s
  else
    (raise .ceilingChange
      (le 2 ceiling ++ le 2 before ++ le 1 s.src.power.code ++ flagByte s.bright.allowance) s).touch .display

/-- Stage 7, the compare (R83): period `p`, minimum on-count `m`. -/
def compareOf (current p m : Nat) : Nat :=
  if current = 0 then 0 else max ((current * p + 500) / 1000) m

/-- The compare is computed and handed to the driver with the level-zero mark if either changed (R79, R81, R83). -/
def handCompare (s : State) : State :=
  let compare := compareOf s.bright.current s.setup.period s.setup.minOn
  let zero := decide (s.bright.current = 0)
  if compare = s.bright.compare ∧ zero = s.drv.levelZero then s
  else handOver compare zero { s with bright.compare := compare }

/-- An evaluation (R79). -/
def evaluate (settings : Bool) (s : State) : State :=
  let s := runChain (judgeAllowance settings s)
  handCompare (if s.bright.ceiling < s.bright.current then { s with bright.current := s.bright.ceiling } else s)

/-- Step 3 of a ramp step (R81): the current level moves. -/
def Bright.moved (x : Bright) : Nat :=
  if x.ceiling < x.current then x.ceiling
  else if x.current < x.target then min x.target (x.current + x.ramp)
  else if x.target < x.current then max x.target (x.current - x.ramp)
  else x.current

/-- A waiting staged curve becomes the installed curve and its INSTALL_CURVE finishes OK (R73). -/
def installStaged (s : State) : State :=
  match s.bright.staged with
  | none => s
  | some c =>
    finishUnit .display .ok 0 (le 1 c.length)
      { s with bright.curve := c, bright.origin := .host, bright.staged := none }

/-- A ramp step (R81) (DESIGN CHOICE, assumption 29). -/
def rampStep (s : State) : State :=
  let s := runChain (judgeAllowance false (installStaged s))
  handCompare (if s.src.sysState = .run then { s with bright.current := s.bright.moved } else s)

/-! ## Light samples -/

/-- Stage 2, the filter, on a valid sample (R70, R71). -/
def Bright.filter (x : Bright) (raw : Nat) : Bright :=
  { x with
    rawLux := raw
    filterValid := true
    filtered :=
      if !x.filterValid then raw
      else if x.filtered < raw then x.filtered + ceilShift (raw - x.filtered) x.attack
      else x.filtered - ceilShift (x.filtered - raw) x.release }

/-- The saturated state after a valid sample (R69). -/
def Bright.saturation (x : Bright) (c : Nat) : Bool :=
  match x.gain with
  | .high => x.saturated
  | .low => if 1020 ≤ c then true else if c < 980 then false else x.saturated

/-- The lux of a valid sample (R68). -/
def Bright.luxOf (x : Bright) (c : Nat) : Nat :=
  match x.gain with
  | .high => c * 8
  | .low => c * 128

/-- The code makes the unit switch its gain (R68). -/
def Bright.switches (x : Bright) (c : Nat) : Bool :=
  match x.gain with
  | .high => decide (960 < c)
  | .low => decide (c < 48)

/-- The other gain. -/
def Gain.flip : Gain → Gain
  | .high => .low
  | .low => .high

/-- Auto-ranging, saturation and filtering of a sample (R68 to R71). -/
def takeSample (c : Nat) (s : State) : State :=
  let s := { s with bright.lastCode := c }
  if s.bright.discard then { s with bright.discard := false }
  else if s.bright.switches c then { s with bright.gain := s.bright.gain.flip, bright.discard := true }
  else
    let raw := s.bright.luxOf c
    let enters := s.bright.saturation c && !s.bright.saturated
    let before := s.bright.filtered
    let s := { s with bright := { s.bright.filter raw with saturated := s.bright.saturation c } }
    if enters then raise .lightSaturated (le 2 c ++ le 3 raw ++ le 3 before) s else s

/-- A light sample (R67): none arrives outside RUN (DESIGN CHOICE, assumption 29). -/
def lightSample (c : Nat) (s : State) : State :=
  if s.src.sysState = .run then
    let s := judgeAllowance false (takeSample c s)
    if s.bright.ceilingOf s.src.power = s.bright.ceiling then s else evaluate false s
  else s

/-! ## Settings -/

/-- The display settings' defaults (R66, R87). -/
def Bright.defaults (x : Bright) : Bright :=
  { x with
    mode := .auto
    manual := 500
    offset := 0
    battCeil := 700
    bridgeCeil := 200
    threshold := 20000
    reserve := 30
    attack := 1
    release := 4
    ramp := 20
    curve := Config.factoryCurve
    origin := .factory
    staged := none }

/-- The unit takes a change of system state (R84) (DEDUCED, assumption 26). -/
def brightSystem (old new : SysState) (s : State) : State :=
  if old = .run then
    if new = .run then s else evaluate false { s with bright.current := 0 }
  else if new = .run then evaluate false s
  else s

/-! ## Curve validation (R72) -/

/-- The first condition a point breaks, given its predecessor, in the table's order. -/
def pointFault (prev : Option (Nat × Nat)) (p : Nat × Nat) : Option CurveReason :=
  if 131071 < p.1 then some .luxRange
  else if prev.any (fun q => decide (p.1 ≤ q.1)) then some .luxOrder
  else if 1000 < p.2 then some .levelRange
  else if prev.any (fun q => decide (p.2 < q.2)) then some .levelOrder
  else none

/-- The first broken condition and its point's index, reading from point `i`. -/
def pointsFault (prev : Option (Nat × Nat)) (i : Nat) : List (Nat × Nat) → Option (CurveReason × Nat)
  | [] => none
  | p :: rest =>
    match pointFault prev p with
    | some r => some (r, i)
    | none => pointsFault (some p) (i + 1) rest

/-- The staged points as they stand in the staging area (12.4). -/
def State.stagedPoints (s : State) (count : Nat) : List (Nat × Nat) :=
  (List.range count).map (fun i => (s.xreadLe (stagingBase + 4 + 8 * i) 4, s.xreadLe (stagingBase + 8 + 8 * i) 2))

/-- The validation of the staging area: a fault with its point index, or the curve (R72). -/
def State.stagedCurve (s : State) : Except (CurveReason × Nat) (List (Nat × Nat)) :=
  let count := s.xreadLe stagingBase 2
  if count < 2 ∨ 16 < count then .error (.count, 0)
  else
    let pts := s.stagedPoints count
    match pointsFault none 1 pts with
    | some f => .error f
    | none => .ok pts

end Sys2Proof.Machine
end

