-- ==== Sys2Proof/Machine/HistoryArray.lean ====
section
/-! DEFINITION. The history array: slots, their states and check, slot images, and searches over the log (R127, R128, R132). -/

namespace Sys2Proof.Machine

/-- The first array address of a slot: sectors of 2 KiB, slots of 64 bytes (R127). -/
def slotAddr (sector slot : Nat) : Nat := 2048 * sector + 64 * slot

/-- The byte at `a` of sectors 0 to 62. -/
def History.byte (h : History) (a : Nat) : Byte := memRead arrayDefault h.array a

/-- The 64 bytes of a slot as they stand. -/
def History.slotBytes (h : History) (sector slot : Nat) : List Byte :=
  memReadBytes arrayDefault h.array (slotAddr sector slot) 64

/-- One bit of the check's register (R128): x^16 + x^12 + x^5 + 1. -/
def crcBit (c : Half) : Half := if c.getLsbD 15 then (c <<< 1) ^^^ 0x1021 else c <<< 1

/-- One byte enters the check's register, most significant bit first (R128). -/
def crcByte (c : Half) (b : Byte) : Half :=
  crcBit (crcBit (crcBit (crcBit (crcBit (crcBit (crcBit (crcBit (c ^^^ (b.setWidth 16 <<< 8)))))))))

/-- The check over some bytes: the register starts at 0xFFFF and is not inverted at the end (R128). -/
def crc (bs : List Byte) : Half := bs.foldl crcByte 0xFFFF

/-- ERASED: all 64 bytes read 0xFF (R128). -/
def slotErased (bs : List Byte) : Bool := bs.all (fun b => b == 0xFF)

/-- VALID: not ERASED, and the stored check equals the check of the first 60 bytes (R128). -/
def slotValid (bs : List Byte) : Bool :=
  !slotErased bs && decide (fromLe ((bs.drop 60).take 2) = (crc (bs.take 60)).toNat)

/-- BAD: not ERASED, and the check does not match (R128). -/
def slotBad (bs : List Byte) : Bool := !slotErased bs && !slotValid bs

/-- The sequence number a slot's bytes hold (12.5). -/
def slotSeq (bs : List Byte) : Nat := fromLe ((bs.drop 2).take 4)

/-- The 64 bytes a record is written as (R132, 12.5). -/
def recordImage (r : HistRecord) (seq : Nat) (retried : Bool) : List Byte :=
  let body := le 1 r.kind.code ++ le 1 (flagBits [r.clockUnset, retried]) ++ le 4 seq ++ leBytes 4 r.clock.toNat
    ++ le 2 r.payload.length ++ padTo 48 0 r.payload
  body ++ leBytes 2 (crc body).toNat ++ [0, 0]

/-- A whole sector is blank: no byte of it is listed as other than 0xFF (R134). -/
def History.sectorBlank (h : History) (sector : Nat) : Bool :=
  !h.array.any (fun c => decide (2048 * sector ≤ c.1 ∧ c.1 < 2048 * (sector + 1)))

/-- The array with a whole sector erased. -/
def eraseSector (array : List Host.Cell) (sector : Nat) : List Host.Cell :=
  array.filter (fun c => !decide (2048 * sector ≤ c.1 ∧ c.1 < 2048 * (sector + 1)))

/-- The slots of sectors 0 to 62 that hold a byte other than 0xFF, by slot number 32 × sector + slot, rising. A slot
that is not among them is ERASED (R128), so a search for VALID or BAD slots need look at these only. -/
def writtenFrom : List Host.Cell → List Nat
  | [] => []
  | [c] => [c.1 / 64]
  | c :: d :: m => if c.1 / 64 = d.1 / 64 then writtenFrom (d :: m) else c.1 / 64 :: writtenFrom (d :: m)

/-- The written log slots, as (sector, slot, bytes). -/
def History.written (h : History) : List (Nat × Nat × List Byte) :=
  ((writtenFrom h.array).filter (fun n => decide (n < 63 * 32))).map
    (fun n => (n / 32, n % 32, h.slotBytes (n / 32) (n % 32)))

/-- The VALID slots of sectors 0 to 62. -/
def History.valid (h : History) : List (Nat × Nat × List Byte) := h.written.filter (fun x => slotValid x.2.2)

/-- The BAD slots of sectors 0 to 62. -/
def History.bad (h : History) : List (Nat × Nat × List Byte) := h.written.filter (fun x => slotBad x.2.2)

/-- The record of highest sequence among some slots. -/
def newest (xs : List (Nat × Nat × List Byte)) : Option (Nat × Nat × List Byte) :=
  xs.foldl (fun best x => match best with
    | none => some x
    | some y => if slotSeq y.2.2 < slotSeq x.2.2 then some x else some y) none

/-- The highest sequence among some slots, or 0. -/
def highestSeq (xs : List (Nat × Nat × List Byte)) : Nat := xs.foldl (fun m x => max m (slotSeq x.2.2)) 0

/-- The lowest sequence among some slots, or 0 with none. -/
def lowestSeq (xs : List (Nat × Nat × List Byte)) : Nat :=
  match xs with
  | [] => 0
  | x :: rest => rest.foldl (fun m y => min m (slotSeq y.2.2)) (slotSeq x.2.2)

/-- What byte `k` of sector `sector` reads as (R127, R130, R142) (a free value, assumption 9). -/
def History.sectorByte (h : History) (sector k : Nat) : Byte :=
  if sector < 63 then h.byte (2048 * sector + k) else Config.factoryByte k

end Sys2Proof.Machine
end

