-- ==== Sys2Proof/Machine/History.lean ====
section
/-! DEFINITION. The History Unit: pending list, head, arbiter, tries, erases, boundary steps, scan and FAULT (R129 to R147). -/

namespace Sys2Proof.Machine

/-! ## The pending list (R136) -/

/-- A record is lost: the lost count, which stops at 65,535, and its notice (R135, R136, R141). -/
def loseRecord (k : RecordKind) (reason : LostReason) (s : State) : State :=
  let lost := min 65535 (s.hist.lost + 1)
  let t := raise .historyLost (le 1 k.code ++ le 1 reason.code ++ le 2 lost) { s with hist.lost := lost }
  if lost = s.hist.lost then t else t.touch .part

/-- An internal record is handed over: it joins the list at the tail or is lost (R136). -/
def handRecord (r : HistRecord) (s : State) : State :=
  if s.hist.fault.isSome then loseRecord r.kind .fault s
  else if 8 ≤ s.hist.list.length then loseRecord r.kind .full s
  else { s with hist.list := s.hist.list ++ [r] }

/-- A record with the service clock of the present event (R132). -/
def State.stamped (s : State) (k : RecordKind) (payload : List Byte) : HistRecord :=
  { kind := k, clockUnset := !s.clock.set, clock := s.clock.seconds, payload := payload }

/-- The records that entries into EXHAUSTED of this event left to hand over, with their notices (R44, R188)
(DEDUCED, assumption 23). -/
def issueHoldups (s : State) : State :=
  s.src.holdups.foldl (fun s h => handRecord h.record (raise .holdupExhausted h.notice s))
    { s with src.holdups := [] }

/-! ## FAULT (R141) -/

/-- Every record of the list is lost with reason FAULT (R141, step 2). -/
def loseList (rs : List HistRecord) (s : State) : State :=
  rs.foldl (fun s r => loseRecord r.kind .fault s) s

/-- The unit enters FAULT (R141). -/
def historyFault (cause : HistoryCause) (sector : Byte) (s : State) : State :=
  let s := raise .historyFault (le 1 cause.code ++ [sector] ++ le 2 s.hist.lost) s
  let rs := s.hist.list
  let s := loseList rs { s with
    hist.fault := some cause
    hist.list := []
    hist.op := .idle
    hist.eraseDue := false
    hist.tries := 0
    hist.note := none
    hist.protect := none }
  finishUnit .history .fault 0 [] s

/-! ## The head (R134) -/

/-- The head stands at slot 0 of a sector it enters: the sector needs an erase unless it is blank (R134). -/
def History.enter (h : History) (sector : Nat) : History :=
  { h with headSector := sector, headSlot := 0, eraseDue := !h.sectorBlank sector }

/-- The head moves to the next slot (R134). -/
def History.advance (h : History) : History :=
  if h.headSlot < 31 then { h with headSlot := h.headSlot + 1 }
  else h.enter ((h.headSector + 1) % h.boundary)

/-- The head passes over slots that are not ERASED, until one is or a new sector needs an erase (R135). -/
def History.passOver : Nat → History → History
  | 0, h => h
  | n + 1, h =>
    if h.eraseDue || slotErased (h.slotBytes h.headSector h.headSlot) then h
    else passOver n h.advance

/-! ## The arbiter (R131) -/

/-- The erase of the head's sector starts, with HISTORY_WRAP (R134), whose highest sequence is 0 for a sector with no VALID
record (DEDUCED, assumption 41). From here every byte of it reads 0xFF (R130). -/
def startErase (s : State) : State :=
  let sector := s.hist.headSector
  let held := s.hist.valid.filter (fun x => x.1 == sector)
  let s := raise .historyWrap (le 1 sector ++ le 1 held.length ++ le 4 (highestSeq held)) s
  { s with
    hist.array := eraseSector s.hist.array sector
    hist.op := .erase sector 1 s.time
    hist.eraseDue := false }

/-- A program try of `r` starts at the head and takes the next sequence number, which then increases by one (R132,
R135). After the last number it is one more than any record can carry (DEDUCED, assumption 32). -/
def startProgram (r : HistRecord) (s : State) : State :=
  let h := s.hist
  { s with
    hist.op := .program h.headSector h.headSlot h.nextSeq (recordImage r h.nextSeq (decide (0 < h.tries)))
    hist.nextSeq := h.nextSeq + 1 }.touch .part

/-- A try of `r`: the head passes written slots; a sector it comes to that needs an erase is erased first (R135). -/
def tryRecord (r : HistRecord) (s : State) : State :=
  let s := { s with hist := s.hist.passOver 64 }.touch .part
  if s.hist.eraseDue then startErase s else startProgram r s

/-- A boundary step starts (R137, R138). -/
def startStep (p : Protect) (s : State) : State :=
  { s with
    hist.protect := some { p with started := true }
    hist.op := .boundary p.target 1 s.hist.boundary }

/-- The NOTE's first try has started once a program of it has (R144). -/
def markStarted (n : Note) (s : State) : State :=
  match s.hist.op with
  | .program _ _ _ _ => { s with hist.note := some { n with started := true } }
  | .idle => s
  | .erase _ _ _ => s
  | .boundary _ _ _ => s

/-- The ACTIVE NOTE's next try, or its first (R143). -/
def tryNote (n : Note) (s : State) : State := markStarted n (tryRecord n.record s)

/-- The waiting host array work: the NOTE or the boundary step (R131, item 3). -/
def hostWork (s : State) : State :=
  match s.hist.note with
  | some n => tryNote n s
  | none =>
    match s.hist.protect with
    | some p => startStep p s
    | none => s

/-- The array is free and may take work (R131, R139, R141). -/
def History.ready (h : History) : Bool := decide (h.op = .idle) && !h.scanning && h.fault.isNone

/-- A NOTE is between its tries, with no other record between them (R131). -/
def History.noteInTries (h : History) : Option Note :=
  match h.note with
  | none => none
  | some n => if n.started && decide (0 < h.tries) then some n else none

/-- The arbiter takes the first waiting work (R131). -/
def arbitrate (s : State) : State :=
  if !s.hist.ready then s
  else if s.hist.eraseDue then startErase s
  else match s.hist.noteInTries with
    | some n => tryNote n s
    | none =>
      match s.hist.list with
      | r :: _ => tryRecord r s
      | [] => hostWork s

/-! ## Completions -/

/-- The last sequence number (R132). -/
def lastSeq : Nat := 4294967295

/-- The end of storing the record that took the last sequence number puts the unit in FAULT (R132, R141). -/
def afterStoring (seq : Nat) (s : State) : State :=
  if seq = lastSeq then historyFault .sequence 0 s else s

/-- The record being tried is a NOTE (R131: a started NOTE's tries are not interrupted). -/
def History.storingNote (h : History) : Bool :=
  match h.note with
  | none => false
  | some n => n.started

/-- A verified program stores its record (R135, R143). -/
def recordStored (sector slot seq : Nat) (s : State) : State :=
  let s := { s with hist.tries := 0 }
  let s := if s.hist.storingNote then
      finishUnit .history .ok 0 (le 4 seq ++ le 1 sector ++ le 1 slot) { s with hist.note := none }
    else { s with hist.list := s.hist.list.tail }
  afterStoring seq s

/-- A record whose last try failed is lost, or its NOTE finishes BUSY (R135, R143)
(DESIGN CHOICE, assumptions 12 and 13). -/
def recordFailed (tries seq : Nat) (s : State) : State :=
  let s := { s with hist.tries := 0 }
  let s := if s.hist.storingNote then
      finishUnit .history .busy 0 (le 1 tries ++ le 4 seq) { s with hist.note := none }
    else match s.hist.list with
      | [] => s
      | r :: rest => loseRecord r.kind .program { s with hist.list := rest }
  afterStoring seq s

/-- A slot program completes and is read back (R129, R134, R135) (DESIGN CHOICE, assumption 6). -/
def programDone (cells : Option (List Byte)) (s : State) : State :=
  match s.hist.op with
  | .program sector slot seq image =>
    let got := match cells with
      | none => image
      | some bs => padTo 64 0xFF bs
    let s := { s with
      hist.array := memWriteBytes arrayDefault s.hist.array (slotAddr sector slot) got
      hist.op := .idle }
    let s := { s with hist := s.hist.advance }.touch .part
    if got = image then recordStored sector slot seq s
    else
      let tries := s.hist.tries + 1
      if 3 ≤ tries ∨ seq = lastSeq then recordFailed tries seq s else { s with hist.tries := tries }
  | .idle => s
  | .erase _ _ _ => s
  | .boundary _ _ _ => s

/-- The scan is no longer under way: the part page shows the head and the next sequence number (R146). -/
def leaveScan (s : State) : State :=
  if s.hist.scanning then { s with hist.scanning := false }.touch .part else s

/-- The start-up scan is over (R139): with the last sequence number found the unit enters FAULT (R141). -/
def scanOver (s : State) : State :=
  let s := leaveScan s
  if s.hist.nextSeq = 0 then historyFault .sequence 0 s else s

/-- An erase has failed: it is started once more, or the unit enters FAULT with the cells as they are, which ends a
scan that called for it (R130, R139) (DEDUCED, assumption 14). -/
def eraseFailed (sector attempt : Nat) (cells : List Byte) (s : State) : State :=
  if attempt < 2 then { s with hist.op := .erase sector 2 s.time }
  else
    historyFault .erase (BitVec.ofNat 8 sector) (leaveScan
      { s with hist.array := memWriteBytes arrayDefault s.hist.array (2048 * sector) (padTo 2048 0xFF cells) })

/-- A sector erase completes and is read back; after 120 ms it counts as failed (R130). The erase that the scan called
for ends the scan (R139) (DEDUCED, assumptions 6 and 14). -/
def eraseDone (cells : Option (List Byte)) (s : State) : State :=
  match s.hist.op with
  | .erase sector attempt start =>
    let got := match cells with
      | none => []
      | some bs => bs
    if (padTo 2048 0xFF got).all (fun b => b == 0xFF) && decide (since s.time start ≤ 120) then
      let s := { s with hist.op := .idle }
      if s.hist.scanning then scanOver s else s
    else eraseFailed sector attempt got s
  | .idle => s
  | .program _ _ _ _ => s
  | .boundary _ _ _ => s

/-- An erase still running 120 ms after its start is stopped and counts as failed (R130)
(DESIGN CHOICE, assumption 6). -/
def eraseStopped (cells : List Byte) (s : State) : State :=
  match s.hist.op with
  | .erase sector attempt start =>
    if 120 ≤ since s.time start then eraseFailed sector attempt cells s else s
  | .idle => s
  | .program _ _ _ _ => s
  | .boundary _ _ _ => s

/-- Marks 1 to 63 − b, which lowering the boundary to b programs (R137). -/
def marksFor (b : Nat) : BitVec 55 := BitVec.ofNat 55 (2 ^ (63 - b) - 1)

/-- A BOUNDARY record's payload (R133). -/
def boundaryPayload (old new sector slot : Nat) (moved : Bool) : List Byte :=
  le 1 old ++ le 1 new ++ le 1 sector ++ le 1 slot ++ flagByte moved

/-- The step gave the requested boundary: the head moves, the BOUNDARY record, the finish (R138). -/
def boundaryLowered (b oldB : Nat) (s : State) : State :=
  let sector := s.hist.headSector
  let slot := s.hist.headSlot
  let moved := decide (b ≤ sector)
  let s := if moved then { s with hist := s.hist.enter 0 }.touch .part else s
  let s := handRecord (s.stamped .boundary (boundaryPayload oldB b sector slot moved)) { s with hist.protect := none }
  finishUnit .history .ok 0 (le 1 b ++ le 1 s.hist.headSector ++ le 1 s.hist.headSlot) s

/-- A boundary step completes and the field is read back (R137, R138) (DESIGN CHOICE, assumptions 6 and 10). A step to be
made once more starts at once, ahead of the pending list (DESIGN CHOICE, assumption 40), and keeps the boundary before the
first step for the BOUNDARY record (DESIGN CHOICE, assumption 48). -/
def stepDone (programmed : Option (BitVec 55)) (s : State) : State :=
  match s.hist.op with
  | .boundary b attempt oldB =>
    let marks := s.hist.marks ||| (marksFor b &&& programmed.getD (BitVec.allOnes 55))
    let s := { s with hist.marks := marks, hist.boundary := boundaryOf marks, hist.op := .idle }
    if boundaryOf marks = b then boundaryLowered b oldB s
    else if attempt < 2 then { s with hist.op := .boundary b 2 oldB }
    else
      let s := finishUnit .history .fault 0 [] { s with hist.protect := none, draws := s.draws + 1 }
      historyFault .boundary (Config.boundaryFaultSector s.draws) s
  | .idle => s
  | .program _ _ _ _ => s
  | .erase _ _ _ => s

/-! ## The start-up scan (R139, R140) -/

/-- The first ERASED slot after `slot` in a sector (R139, step 5). -/
def History.erasedAfter (h : History) (sector slot : Nat) : Option Nat :=
  (List.range 32).find? (fun k => decide (slot < k) && slotErased (h.slotBytes sector k))

/-- The head the scan sets (R139, step 5). -/
def History.scanHead (h : History) : History :=
  match newest (h.valid.filter (fun x => decide (x.1 < h.boundary))) with
  | none => h.enter 0
  | some (sector, slot, _) =>
    match h.erasedAfter sector slot with
    | some k => { h with headSector := sector, headSlot := k, eraseDue := false }
    | none => h.enter ((sector + 1) % h.boundary)

/-- The RESTART payload (R133, R140). -/
def restartPayload (h : History) (valid bad highest : Nat) : List Byte :=
  le 1 h.boundary ++ le 2 valid ++ le 2 bad ++ le 4 highest ++ le 1 h.headSector ++ le 1 h.headSlot
    ++ flagByte h.eraseDue

/-- The RESTART record in the list gets its payload (R140). -/
def completeRestart (payload : List Byte) : List HistRecord → List HistRecord
  | [] => []
  | r :: rest => if r.kind = .restart then HistRecord.restart payload :: rest else r :: rest

/-- The scan has read the array (R139, steps 1 to 5, R140): the boundary, the next sequence number, the head and the
RESTART record's payload. -/
def scanFindings (s : State) : State :=
  let highest := highestSeq s.hist.valid
  let s := { s with
    hist.boundary := boundaryOf s.hist.marks
    hist.nextSeq := (highest + 1) % 2 ^ 32 }
  let s := { s with hist := s.hist.scanHead }
  let payload := restartPayload s.hist s.hist.valid.length s.hist.bad.length highest
  { s with hist.list := completeRestart payload s.hist.list }

/-- START_UP_SCAN_END: with its findings the scan is over, or goes on with the erase they call for (R139)
(DEDUCED, assumption 14). -/
def scanEnd (s : State) : State :=
  if s.hist.scanning && decide (s.hist.op = .idle) then
    let s := scanFindings s
    if s.hist.eraseDue then startErase s else scanOver s
  else s

/-! ## Loss of supply (R128, R137, R139) -/

/-- What the array and the boundary field hold after the supply is lost during an operation: a program may have
cleared some of the bits it meant to clear, an erase may have left any bytes, a step may have programmed some of its
marks (DESIGN CHOICE, assumption 6). -/
def History.cut (h : History) (cells : List Byte) (marks : BitVec 55) : List Host.Cell × BitVec 55 :=
  match h.op with
  | .idle => (h.array, h.marks)
  | .program sector slot _ image =>
    (memWriteBytes arrayDefault h.array (slotAddr sector slot)
      (List.zipWith (fun m c => m ||| c) image (padTo 64 0xFF cells)), h.marks)
  | .erase sector _ _ => (memWriteBytes arrayDefault h.array (2048 * sector) (padTo 2048 0xFF cells), h.marks)
  | .boundary b _ _ => (h.array, h.marks ||| (marksFor b &&& marks))

/-! ## A reset of the link or the platform (R147) -/

/-- The window mapping becomes none; the ACTIVE HISTORY request loses its entry, and waiting work is dropped (R147). -/
def historyReset (s : State) : State :=
  { s with
    hist.mapped := none
    hist.note := match s.hist.note with
      | none => none
      | some n => if n.started then some { n with entry := none } else none
    hist.protect := match s.hist.protect with
      | none => none
      | some p => if p.started then some { p with entry := none } else none }

end Sys2Proof.Machine
end

