-- ==== Sys2Proof/Machine/Gauge.lean ====
section
/-! DEFINITION. The Charge Gauge: counting, estimate, fixed points, learning, low arming, time to empty (R51 to R65). -/

namespace Sys2Proof.Machine

/-- The lower bound of full capacity in mAs (R51). -/
def fullLow (nominal : Nat) : Nat := nominal * 1800

/-- The upper bound of full capacity in mAs (R51). -/
def fullHigh (nominal : Nat) : Nat := nominal * 3960

/-- The current sample of a code in mA (R52). -/
def sampleMa (code : BitVec 12) : Int := code.toInt * 4

/-- A code at a limit (R52). -/
def saturatedCode (code : BitVec 12) : Bool := decide (code.toInt = -2048 ∨ code.toInt = 2047)

/-- The SoC of a record's charge (R56). -/
def socOf (remaining full : Nat) : Nat := remaining * 100 / full

/-- The record with its SoC recomputed (R56). -/
def GaugeRec.withSoc (r : GaugeRec) : GaugeRec := { r with soc := socOf r.remaining r.full }

/-- The transfer of a sum (R53, step 2). -/
def transferOf (sum : Int) : Int := if 100 ≤ sum ∨ sum ≤ -100 then sum.tdiv 100 else 0

/-- One round counted with current `i` (R52, R53). -/
def GaugeRec.count (r : GaugeRec) (code : BitVec 12) : GaugeRec :=
  let sum := r.sub + sampleMa code
  let w := transferOf sum
  { r with
    sub := sum - w * 100
    remaining := (clampInt 0 r.full (r.remaining - w)).toNat
    drawn := if 0 < w then min 4294967295 (r.drawn + w.toNat) else r.drawn
    learn := r.learn && !saturatedCode code && !decide (w < 0)
    satCount := if saturatedCode code then min 65535 (r.satCount + 1) else r.satCount }.withSoc

/-- The states whose record a round counts (R53). -/
def BayState.counted : BayState → Bool
  | .ready => true
  | .feeding => true
  | .swapPrepared => true
  | .releasing => true
  | .empty => false
  | .seated => false
  | .qualifying => false
  | .held => false
  | .fault => false

/-- Bay `b`'s record counts the round (R53, R54). -/
def countBay (b : BayId) (s : State) : State :=
  match s.gaugeRec b with
  | none => s
  | some r => if (s.bay b).state.counted then s.setGaugeRec b (some (r.count (s.bay b).code)) else s

/-- The PACK_LOW payload (R62). -/
def packLowPayload (b : BayId) (r : GaugeRec) (warn : Nat) : List Byte :=
  le 1 b.code ++ le 1 r.soc ++ le 1 warn ++ le 2 (r.remaining / 3600)

/-- The low arming of bay `b`'s record is checked (R62); a HELD pack's stands. -/
def checkLow (b : BayId) (s : State) : State :=
  match s.gaugeRec b with
  | none => s
  | some r =>
    if (s.bay b).state = .held then s
    else if r.armed then
      if r.soc < s.src.warn then
        raise .packLow (packLowPayload b r s.src.warn) (s.setGaugeRec b (some { r with armed := false }))
      else s
    else if s.src.warn + 5 ≤ r.soc then s.setGaugeRec b (some { r with armed := true })
    else s

/-- The full capacity a new record takes (R55): the kept capacity clamped, or the nominal one. -/
def firstFull (kept : Option Nat) (nominal : Nat) : Nat :=
  match kept with
  | none => nominal * 3600
  | some k => clamp (fullLow nominal) (fullHigh nominal) k

/-- The record made at the estimate `soc` (R55). -/
def newRec (full soc : Nat) : GaugeRec :=
  { remaining := full * soc / 100, full := full, sub := 0, drawn := 0, learn := false, soc := 0,
    armed := true, satCount := 0, residual := 0 : GaugeRec }.withSoc

/-- A pack's record is made from the open-circuit voltage (R55), and its low arming is checked (R62). -/
def makeRecord (b : BayId) (mv : Nat) (s : State) : State :=
  let r := newRec (firstFull (s.kept b) s.setup.nominal) (interpolate Config.openCircuit mv)
  checkLow b (((s.setGaugeRec b (some r)).setKept b none).touch .power)

/-- Bay `b`'s record is forgotten (R51). -/
def forgetRecord (b : BayId) (s : State) : State :=
  match s.gaugeRec b with
  | none => s
  | some _ => (s.setGaugeRec b none).touch .power

/-- Bay `b`'s record and kept capacity are forgotten (R51, R55). -/
def forgetPack (b : BayId) (s : State) : State := (forgetRecord b s).setKept b none

/-- Bay `b`'s record, if it has one, is reduced to a kept capacity (R55). -/
def keepCapacity (b : BayId) (s : State) : State :=
  match s.gaugeRec b with
  | none => s
  | some r => (forgetRecord b s).setKept b (some r.full)

/-- The record at the charger's end of charge (R57). -/
def GaugeRec.charged (r : GaugeRec) : GaugeRec :=
  { r with remaining := r.full, sub := 0, drawn := 0, learn := true }.withSoc

/-- The record at its empty trip before learning (R58). -/
def GaugeRec.emptied (r : GaugeRec) : GaugeRec :=
  { r with residual := r.remaining / 3600, remaining := 0, sub := 0 }.withSoc

/-- The record after learning its capacity (R59). -/
def GaugeRec.learned (r : GaugeRec) (nominal : Nat) : GaugeRec :=
  { r with full := clamp (fullLow nominal) (fullHigh nominal) r.drawn, learn := false }.withSoc

/-- The CAPACITY_LEARNED payload (R59). -/
def learnedPayload (b : BayId) (old new : GaugeRec) : List Byte :=
  le 1 b.code ++ le 2 (new.full / 3600) ++ le 2 (old.full / 3600) ++ le 2 (old.drawn / 3600)
    ++ flagByte (decide (new.full ≠ old.drawn))

/-- The gauge takes the empty trip of bay `b` (R58, R59); the SoC's change is handed on by the caller. -/
def gaugeTrip (b : BayId) (s : State) : State :=
  match s.gaugeRec b with
  | none => s
  | some r =>
    if r.learn then
      let new := r.emptied.learned s.setup.nominal
      raise .capacityLearned (learnedPayload b r new) (s.setGaugeRec b (some new))
    else s.setGaugeRec b (some r.emptied)

/-- The record with a full capacity set, its remaining clamped to it (R60, R61). -/
def GaugeRec.withFull (r : GaugeRec) (full : Nat) : GaugeRec :=
  { r with full := full, remaining := min r.remaining full }.withSoc

/-! ## Time to empty (R63, R64) -/

/-- The window is emptied and the second in progress discarded (R63). -/
def emptyWindow (s : State) : State := { s with gauge.window := [], gauge.secSum := 0, gauge.secCount := 0 }

/-- The second in progress, once it has its hundred samples, joins the window as its newest place (R63)
(DEDUCED, assumption 27). -/
def closeSecond (s : State) : State :=
  if 100 ≤ s.gauge.secCount then
    let places := s.gauge.window ++ [s.gauge.secSum / 100]
    { s with
      gauge.window := if 60 < places.length then places.drop 1 else places
      gauge.secSum := 0
      gauge.secCount := 0 }
  else s

/-- The feeding bay's sample joins the second in progress (R63); a second that is full closes first
(DEDUCED, assumption 27). -/
def gatherSample (s : State) : State :=
  match s.src.feeding.bay with
  | none => s
  | some b =>
    let s := closeSecond s
    { s with gauge.secSum := s.gauge.secSum + sampleMa (s.bay b).code, gauge.secCount := s.gauge.secCount + 1 }

/-- The average drain, 0 while the window is empty (R64). -/
def Gauge.avg (g : Gauge) : Int := if g.window = [] then 0 else g.window.sum / g.window.length

/-- An eligible pack (R15). -/
def Bay.eligible (x : Bay) : Bool :=
  (decide (x.state = .ready) || decide (x.state = .feeding)) && !x.depleted && !x.latchOpen

/-- The remaining charge of bay `b` if it is eligible, in mAs (R64). -/
def State.eligibleCharge (s : State) (b : BayId) : Nat :=
  match s.gaugeRec b with
  | none => 0
  | some r => if (s.bay b).eligible then r.remaining else 0

/-- The time to empty in minutes (R64). -/
def State.timeToEmpty (s : State) : Nat :=
  if s.gauge.window = [] ∨ s.src.feeding.bay = none ∨ s.gauge.avg ≤ 50 then 65535
  else (s.eligibleCharge .bayA + s.eligibleCharge .bayB) / (s.gauge.avg.toNat * 60)

end Sys2Proof.Machine
end

