-- ==== Sys2Proof/Machine/Source.lean ====
section
/-! DEFINITION. The Source Controller's shared operations: power state, switch-over, selection, charging, re-engagement, release (R9, R13 to R22, R32, R38 to R47). -/

namespace Sys2Proof.Machine

/-! ## Power state (R14, R44) -/

/-- The power state the feeding set and the exhaustion latch give (R14). -/
def Source.derivedPower (c : Source) : PowerState :=
  if c.exhLatch then .exhausted
  else match c.feeding with
    | .empty => .exhausted
    | .dc => .dc
    | .bayA => .pack
    | .bayB => .pack
    | .bridge => .bridge

/-- Milliseconds since bridge engagement, or 0 when the power state left was not BRIDGE (R48). -/
def State.rideElapsed (s : State) (left : PowerState) : Nat :=
  match s.src.rideTimer with
  | none => 0
  | some t => if left = .bridge then since s.time t.start else 0

/-- The HOLDUP record's payload (R48). -/
def holdupPayload (cause : HoldupCause) (left : PowerState) (s : State) : List Byte :=
  le 1 cause.code ++ le 1 left.code ++ le 4 (s.rideElapsed left) ++ le 2 s.src.bridgeMv
    ++ le 2 (s.remainingMah .bayA) ++ le 2 (s.remainingMah .bayB) ++ le 1 s.src.sysState.code

/-- The power state is left for EXHAUSTED (R44): the latch is set, and the notice and the record are left for the
event to hand over after the record of a removal (R188) (DEDUCED, assumption 23). -/
def enterExhausted (cause : HoldupCause) (left : PowerState) (s : State) : State :=
  let h : Holdup :=
    { notice := le 1 cause.code ++ le 1 left.code ++ le 2 s.src.bridgeMv
      record := s.stamped .holdup (holdupPayload cause left s) }
  { s with src.exhLatch := true, src.holdups := s.src.holdups ++ [h] }

/-- The power state is recomputed; a change runs an evaluation and updates the page (R14, R79). `again` asks for an
evaluation although the power state stays, because the feeding bay changed (R79). -/
def updatePower (cause : HoldupCause) (again : Bool) (s : State) : State :=
  let left := s.src.power
  let new := s.src.derivedPower
  if new = left then (if again then evaluate false s else s)
  else
    let s := { s with src.power := new }.touch .power
    let s := if new = .exhausted then enterExhausted cause left s else s
    evaluate false s

/-- The cause of an entry into EXHAUSTED by a feeding set left empty (R44). -/
def emptyCause (left : PowerState) : HoldupCause := if left = .bridge then .bridgeCutoff else .sourceLost

/-- BR_CHG is evaluated (R22). -/
def evalBrChg (s : State) : State :=
  { s with src.brChg :=
      (decide (s.src.feeding = .dc) || s.src.feeding.bay.isSome) && decide (s.src.bridgeMonitor ≠ .ready) }

/-! ## Charging (R20) -/

/-- A READY bay below SoC 100 (R20). -/
def State.chargeable (s : State) (b : BayId) : Bool := decide ((s.bay b).state = .ready) && decide (s.soc b < 100)

/-- The bay charge selection chooses (R20): the lowest SoC, ties to A. -/
def State.chargeChoice (s : State) : Option BayId :=
  if s.chargeable .bayA then
    if s.chargeable .bayB && decide (s.soc .bayB < s.soc .bayA) then some .bayB else some .bayA
  else if s.chargeable .bayB then some .bayB
  else none

/-- Bay `b`'s charge select is set to `on`; a change updates the page. -/
def setCharge (b : BayId) (on : Bool) (s : State) : State :=
  if (s.bay b).chargeSel = on then s else (s.setBay b { s.bay b with chargeSel := on }).touch .power

/-- Charge selection (R20). -/
def selectCharge (s : State) : State :=
  if !s.src.dcPresent then setCharge .bayB false (setCharge .bayA false s)
  else if s.src.bayA.chargeSel || s.src.bayB.chargeSel then s
  else match s.chargeChoice with
    | none => s
    | some b => setCharge b true s

/-! ## Bay records -/

/-- A bay's state becomes `st`, and the power page is due (R185). -/
def setState (b : BayId) (st : BayState) (s : State) : State :=
  (s.setBay b { s.bay b with state := st, prior := none, priorRel := none }).touch .power

/-- A bay record entering READY or FEEDING (R9): with its monitor TRIPPED its depleted flag is set. -/
def Bay.depletedIn (x : Bay) : Bool := x.depleted || decide (x.monitor = .tripped)

/-- Bay `b` enters READY (R9, R13). -/
def enterReady (b : BayId) (s : State) : State :=
  let x := s.bay b
  (s.setBay b { x with state := .ready, prior := none, priorRel := none, depleted := x.depletedIn }).touch .power

/-- Bay `b` enters RELEASING with this prior state; charge select is removed (R5). -/
def enterReleasing (b : BayId) (prior : BayState) (s : State) : State :=
  let x := s.bay b
  (s.setBay b { x with state := .releasing, prior := some prior, priorRel := none, chargeSel := false }).touch .power

/-- A qualification window starts (R3, R4). -/
def startQualifying (b : BayId) (s : State) : State :=
  let x := s.bay b
  (s.setBay b { x with
    state := .qualifying, prior := none, priorRel := none, qualStart := s.time, clean := true }).touch .power

/-! ## Switch-over (R13, R40, R41) -/

/-- A FEEDING bay leaves the set: READY, and a stranded one RELEASING in the same event (R13, R39). -/
def leaveSet (s : State) : State :=
  match s.src.feeding.bay with
  | none => s
  | some b =>
    let x := s.bay b
    if x.state ≠ .feeding then s
    else if x.latchOpen then
      enterReleasing b .ready (enterReady b (s.setBay b { x with latchOpen := false }))
    else enterReady b s

/-- A source joins the set: a bay becomes FEEDING, with no charge select and no prepared timer; DC or a bay clears
the exhaustion latch (R13, R14, R20, R46). -/
def joinSet (f : Feed) (s : State) : State :=
  let s := { s with src.feeding := f }
  match f with
  | .empty => s
  | .bridge => s
  | .dc => { s with src.exhLatch := false }
  | .bayA => joinBay .bayA { s with src.exhLatch := false }
  | .bayB => joinBay .bayB { s with src.exhLatch := false }
where
  /-- Bay `b` becomes FEEDING. -/
  joinBay (b : BayId) (s : State) : State :=
    let x := s.bay b
    s.setBay b { x with
      state := .feeding, prior := none, priorRel := none, depleted := x.depletedIn, chargeSel := false,
      prepTimer := none }

/-- Bridge engagement: the ride-through timer starts and BRIDGE_ENGAGED is raised (R40); any other member stops the
timer (R41, R45, R46). -/
def updateRide (left : PowerState) (s : State) : State :=
  if s.src.feeding = .bridge then
    raise .bridgeEngaged (le 1 left.code ++ le 2 s.setup.rideLimit ++ le 2 s.src.bridgeMv)
      { s with src.rideTimer := some { start := s.time, len := 1000 * s.setup.rideLimit } }
  else { s with src.rideTimer := none }

/-- A switch-over of the feeding set to `f` (R13): bays, set, latch, window, power state, ride-through, BR_CHG, page
and charge selection. -/
def switchOver (f : Feed) (s : State) : State :=
  let before := s.src.feeding
  let left := s.src.power
  let s := emptyWindow ((joinSet f (leaveSet s)).touch .power)
  let s := updatePower (emptyCause left) (before.bay.isSome || f.bay.isSome) s
  selectCharge (evalBrChg (updateRide left s))

/-! ## Selection (R15 to R18) -/

/-- The bridge is a candidate: above its trip, no cutoff, no exhaustion latch (R10, R11, R15). -/
def Source.bridgeCandidate (c : Source) : Bool := decide (c.bridgeMonitor ≠ .low) && !c.cutoff && !c.exhLatch

/-- The present member is available: still a candidate, and a feeding bridge until its cutoff (R15). -/
def Source.memberAvailable (c : Source) : Bool :=
  match c.feeding with
  | .empty => false
  | .bayA => c.bayA.eligible
  | .bayB => c.bayB.eligible
  | .dc => c.dcPresent
  | .bridge => !c.cutoff

/-- The pack the policy chooses when both are eligible (R16). -/
def State.policyChoice (s : State) : BayId :=
  match s.src.policy with
  | .sequential => .bayA
  | .drainLower =>
    match s.src.feeding.bay with
    | some b => b
    | none => if s.soc .bayB < s.soc .bayA then .bayB else .bayA
  | .balanced =>
    match s.src.feeding.bay with
    | some b => if s.soc b + 5 ≤ s.soc b.other then b.other else b
    | none => if s.soc .bayA < s.soc .bayB then .bayB else .bayA

/-- The pack of step 2 of R16, if any is eligible. -/
def State.packChoice (s : State) : Option BayId :=
  if s.src.bayA.eligible then
    if s.src.bayB.eligible then some s.policyChoice else some .bayA
  else if s.src.bayB.eligible then some .bayB
  else none

/-- The target of selection (R16). -/
def State.target (s : State) : Feed :=
  if s.src.dcPresent then .dc
  else match s.packChoice with
    | some b => b.feed
    | none =>
      if s.src.bridgeCandidate || (decide (s.src.feeding = .bridge) && s.src.memberAvailable) then .bridge
      else .empty

/-- A change toward the target is forced (R17). -/
def Source.forced (c : Source) : Bool :=
  !c.memberAvailable || decide (c.feeding = .empty) || decide (c.power = .exhausted)

/-- A bay that may be re-engaged (R46). -/
def Bay.reengageable (x : Bay) : Bool :=
  decide (x.state = .swapPrepared) && x.present.acc && x.latch.acc && decide (x.monitor = .released)

/-- The bay emergency re-engagement takes (R46): the higher SoC, ties to A. -/
def State.reengageChoice (s : State) : Option BayId :=
  if s.src.bayA.reengageable then
    if s.src.bayB.reengageable && decide (s.soc .bayA < s.soc .bayB) then some .bayB else some .bayA
  else if s.src.bayB.reengageable then some .bayB
  else none

/-- Emergency re-engagement of bay `b` (R46). A bay whose depleted flag is set feeds until the next run of selection
(DESIGN CHOICE, assumption 34). -/
def reengage (b : BayId) (s : State) : State :=
  let s := switchOver b.feed s
  raise .swapExpired (le 1 b.code ++ le 1 1 ++ le 1 (s.bay b).state.code) s

/-- The feeding bay keeps the load although no source is found: its latch has opened (R18, R39), or its preparation
is pending (R35). The latch has opened when the latch-open flag is set: a bay whose latch opening was accepted under a
shock hold, which leaves the flag clear (R25), does not keep the load (DESIGN CHOICE, assumption 45). -/
def Source.keepsLoad (c : Source) : Bool :=
  match c.feeding.bay with
  | none => false
  | some b =>
    let x := match b with
      | .bayA => c.bayA
      | .bayB => c.bayB
    decide (x.state = .feeding) && (x.latchOpen || (c.prep.pending && decide (c.prep.bay = b)))

/-- A forced change that finds no source (R18) (DEDUCED, assumption 19). -/
def noSource (s : State) : State :=
  match s.reengageChoice with
  | some b => reengage b s
  | none => if s.src.keepsLoad then s else switchOver .empty s

/-- Source selection (R18) (DEDUCED, assumption 19). -/
def runSelection (s : State) : State :=
  if s.target = s.src.feeding then s
  else if s.target = .empty then noSource s
  else if s.src.forced || !s.src.hold then switchOver s.target s
  else { s with src.deferred := true }

/-! ## SoC events (R56) -/

/-- An SoC event of bay `b`, handed to selection, then to the Brightness Unit when the bay feeds, and then to PACK_LOW
(R56) (DESIGN CHOICE, assumption 35: the order, so that FEEDING is judged after the selection). -/
def socEvent (b : BayId) (s : State) : State :=
  let s := runSelection s
  let s := if (s.bay b).state = .feeding then evaluate false s else s
  checkLow b s

/-- Bay `b`'s SoC was `before`; if it differs now, that is an SoC event (R56). -/
def socChanged (b : BayId) (before : Nat) (s : State) : State := if s.soc b = before then s else socEvent b s

/-! ## Unplanned release (R38) -/

/-- An unplanned release of bay `b` (R38). -/
def unplannedRelease (b : BayId) (s : State) : State :=
  let s := runSelection ((s.setBay b { s.bay b with latchOpen := true }).touch .power)
  let stranded := decide ((s.bay b).state = .feeding)
  raise .unplannedRelease (le 1 b.code ++ flagByte stranded ++ le 1 s.src.feeding.code) s

/-! ## Bridge trips (R10, R11, R42, R43, R45) -/

/-- Ride-through expiry and a bridge trip while bridging: emergency re-engagement, or exhaustion (R42, R43). -/
def rideEnds (cause : HoldupCause) (s : State) : State :=
  match s.reengageChoice with
  | some b => reengage b s
  | none =>
    let s := updatePower cause false { s with src.exhLatch := true }
    runSelection { s with src.rideTimer := none }

/-- BRIDGE_LOW is raised (R10, R11). -/
def raiseBridgeLow (feeding cutoff : Bool) (s : State) : State :=
  raise .bridgeLow (le 2 s.src.bridgeMv ++ flagByte feeding ++ flagByte cutoff) s

/-! ## Preparations (R32, R34) -/

/-- The alternative source of a preparation of bay `b` (R32, step 3). -/
def State.alternative (s : State) (b : BayId) : Feed :=
  if (s.bay b.other).eligible then b.other.feed
  else if s.src.dcPresent then .dc
  else if decide (s.src.bridgeMonitor = .ready) && !s.src.cutoff && !s.src.exhLatch then .bridge
  else .empty

/-- Entry into SWAP_PREPARED from a SWAP_PREPARE (R34): source selection, which R18 runs on the entry, comes before
charge selection (DEDUCED, assumption 19). -/
def enterPrepared (b : BayId) (s : State) : State :=
  let x := s.bay b
  let s := (s.setBay b { x with
    state := .swapPrepared, prior := none, priorRel := none, chargeSel := false,
    prepTimer := some { start := s.time, len := 1000 * s.setup.prepTimeout }, prepStart := s.time }).touch .power
  giveGroup swapGroup (selectCharge (runSelection s))

end Sys2Proof.Machine
end

