-- ==== Sys2Proof/Machine/Bays.lean ====
section
/-! DEFINITION. The life of a bay: contacts, latches, qualification, the shock hold, preparations, power rounds (R2 to R12, R24 to R27, R31 to R36). -/

namespace Sys2Proof.Machine

/-! ## Qualification (R4) -/

/-- The range a qualifying or returning pack's voltage must lie in (R4, R26). -/
def inRange (mv : Nat) : Bool := decide (9000 ≤ mv) && decide (mv ≤ 13000)

/-- A clean window's end: READY, with the gauge's record and both selections; BAY_READY gives the initial estimate
(R4, R55, R183). -/
def qualified (b : BayId) (s : State) : State :=
  let x := s.bay b
  let s := s.setBay b { x with monitor := .released, tripRun := 0, releaseRun := 0, depleted := false }
  let s := makeRecord b x.mv (enterReady b s)
  let s := raise .bayReady (le 1 b.code ++ le 2 x.mv ++ le 1 (interpolate Config.openCircuit x.mv)) s
  selectCharge (runSelection s)

/-- A window's end that is not clean: FAULT; a kept capacity is forgotten (R4, R7, R55). -/
def failedQualification (b : BayId) (s : State) : State :=
  raise .bayFault (le 1 b.code ++ le 2 (s.bay b).mv) (forgetPack b (setState b .fault s))

/-- The qualification window of bay `b` ends 2,000 ms after its start (R4). -/
def qualificationEnd (b : BayId) (s : State) : State :=
  let x := s.bay b
  if x.state = .qualifying ∧ 2000 ≤ since s.time x.qualStart then
    if x.clean then qualified b s else failedQualification b s
  else s

/-! ## Removal (R6, R7, R27, R48) -/

/-- The bay was prepared: SWAP_PREPARED, or RELEASING from it, or HELD from one of these (R6, R27, R36). -/
def Bay.wasPrepared (x : Bay) : Bool :=
  decide (x.state = .swapPrepared)
    || (decide (x.state = .releasing) && decide (x.prior = some .swapPrepared))
    || (decide (x.state = .held) && (decide (x.prior = some .swapPrepared)
      || (decide (x.prior = some .releasing) && decide (x.priorRel = some .swapPrepared))))

/-- The state a removal reports: the bay's own, or a HELD bay's prior state (R48, R183). -/
def Bay.stateLeft (x : Bay) : BayState :=
  if x.state = .held then x.prior.getD .held else x.state

/-- The bay was stranded when presence was lost (R48). -/
def Bay.lostStranded (x : Bay) : Bool := if x.state = .held then x.strandedAtLoss else x.stranded

/-- The record a removal hands over, if any (R6, R7, R27). -/
def Bay.removalKind (x : Bay) : Option RecordKind :=
  if x.stateLeft = .fault then none
  else if x.wasPrepared then some .swap
  else some .unplanned

/-- The payload of a SWAP or UNPLANNED record (R48); `remaining` and `full` in mAh as presence was lost. -/
def removalPayload (k : RecordKind) (b : BayId) (x : Bay) (remaining full : Nat) (during : Bool) (s : State) :
    List Byte :=
  match k with
  | .swap =>
    le 1 b.code ++ le 2 remaining ++ le 2 full ++ le 4 (since s.time x.prepStart) ++ le 1 s.src.power.code
      ++ flagByte during
  | _ =>
    le 1 b.code ++ le 1 x.stateLeft.code ++ flagByte x.lostStranded ++ le 2 remaining ++ le 1 s.src.power.code
      ++ flagByte during

/-- The removal's record and BAY_REMOVED (R6, R7, R27). -/
def announceRemoval (b : BayId) (x : Bay) (remaining full : Nat) (during : Bool) (s : State) : State :=
  let s := match x.removalKind with
    | none => s
    | some k => handRecord (s.stamped k (removalPayload k b x remaining full during s)) s
  raise .bayRemoved
    (le 1 b.code ++ le 1 x.stateLeft.code ++ flagByte during ++ optByte (x.removalKind.map RecordKind.code)) s

/-- Bay `b` enters EMPTY: flags, window, timer and monitor are cleared and the gauge forgets the pack (R6). -/
def enterEmpty (b : BayId) (s : State) : State :=
  let x := s.bay b
  forgetPack b ((s.setBay b { x with
    state := .empty, prior := none, priorRel := none, strandedAtLoss := false, chargeSel := false, depleted := false,
    latchOpen := false, clean := false, prepTimer := none, monitor := .released, tripRun := 0,
    releaseRun := 0 }).touch .power)

/-- A loss of PRESENT outside a hold in a seated state or FAULT (R6, R7): EMPTY, selection, record, notice. -/
def removePack (b : BayId) (s : State) : State :=
  let x := s.bay b
  let remaining := s.remainingMah b
  let full := s.fullMah b
  announceRemoval b x remaining full false (selectCharge (runSelection (enterEmpty b s)))

/-! ## The shock hold (R24 to R27) -/

/-- The held time of a bay up to now, at most 65,535 ms (R1). -/
def Bay.heldNow (x : Bay) (now : Time) : Nat :=
  match x.heldSince with
  | none => x.heldMs
  | some t => min 65535 (x.heldMs + since now t)

/-- A bay's held time stops. -/
def Bay.stopHeld (x : Bay) (now : Time) : Bay := { x with heldMs := x.heldNow now, heldSince := none }

/-- A bay's held time and outcome at the start of a hold (R24). -/
def Bay.beginHold (x : Bay) : Bay := { x with heldMs := 0, heldSince := none, outcome := none }

/-- The start of a shock hold (R24). -/
def holdStart (s : State) : State :=
  { s with
    src.hold := true
    src.interrupted := []
    src.bayA := s.src.bayA.beginHold
    src.bayB := s.src.bayB.beginHold }

/-- A loss of PRESENT during a hold: the bay is HELD (R24). -/
def holdBay (b : BayId) (s : State) : State :=
  let x := s.bay b
  let s := (s.setBay b { x with
    state := .held, prior := some x.state, priorRel := if x.state = .releasing then x.prior else none,
    strandedAtLoss := x.stranded, clean := false, chargeSel := false, latchOpen := false,
    heldSince := some s.time, outcome := some .removed }).touch .power
  let s := if s.src.interrupted.contains b then s
    else { s with src.interrupted := s.src.interrupted ++ [b] }
  selectCharge (runSelection s)

/-- The state a HELD bay returns to, and whether its voltage must be in range (R26). -/
def Bay.returnsTo (x : Bay) : BayState × Bool :=
  match x.prior with
  | some .seated => (.seated, false)
  | some .qualifying => (.seated, false)
  | some .fault => (.fault, false)
  | some .swapPrepared => (.swapPrepared, true)
  | some .releasing => if x.priorRel = some .swapPrepared then (.swapPrepared, true) else (.ready, true)
  | _ => (.ready, true)

/-- A HELD bay with accepted PRESENT returns, if its voltage allows (R26). Selection runs, so that a forced change may take
the returned bay at once, under the hold (DESIGN CHOICE, assumption 38). -/
def returnBay (b : BayId) (s : State) : State :=
  let x := s.bay b
  let dest := x.returnsTo
  if dest.2 && !inRange x.mv then s
  else
    let s := s.setBay b { x.stopHeld s.time with outcome := some .returned }
    let s := if dest.1 = .ready then enterReady b s else setState b dest.1 s
    selectCharge (runSelection s)

/-- Step 1 of the end of a hold for bay `b` (R27): a HELD bay without presence becomes EMPTY; one that waits for its
voltage is SEATED or QUALIFYING, its record reduced to a kept capacity (R55) (DEDUCED, assumption 20). -/
def settleHeld (b : BayId) (s : State) : State :=
  let x := s.bay b
  if x.state ≠ .held then s
  else if x.present.acc then
    let s := keepCapacity b (s.setBay b { x with outcome := some .returned, prepTimer := none })
    if x.latch.acc then startQualifying b s else setState b .seated s
  else
    let remaining := s.remainingMah b
    let full := s.fullMah b
    announceRemoval b x remaining full true (enterEmpty b s)

/-- The entry of the interruption list for bay `b` (R27, R113). -/
def State.interruption (s : State) (b : BayId) : Interruption :=
  let x := s.bay b
  { bay := b, outcome := x.outcome.getD .removed, heldMs := x.heldMs }

/-! ## Latches (R3, R5, R25, R35, R38, R39) -/

/-- The transition that a latch opening of bay `b` causes (R5, R38). A stranded bay stays as it is, with no second
UNPLANNED_RELEASE (DESIGN CHOICE, assumption 31). -/
def latchOpened (b : BayId) (s : State) : State :=
  match (s.bay b).state with
  | .qualifying => setState b .seated s
  | .ready => selectCharge (runSelection (enterReleasing b .ready s))
  | .swapPrepared => selectCharge (runSelection (enterReleasing b .swapPrepared s))
  | .feeding => if (s.bay b).latchOpen then s else unplannedRelease b s
  | .empty => s
  | .seated => s
  | .releasing => s
  | .held => s
  | .fault => s

/-- The transition that a latch closing of bay `b` causes (R3, R5, R39). -/
def latchClosed (b : BayId) (s : State) : State :=
  let x := s.bay b
  match x.state with
  | .seated => startQualifying b s
  | .releasing =>
    if x.prior = some .swapPrepared then selectCharge (runSelection (setState b .swapPrepared s))
    else selectCharge (runSelection (enterReady b s))
  | .feeding =>
    if x.latchOpen then runSelection ((s.setBay b { x with latchOpen := false }).touch .power)
    else s
  | .empty => s
  | .qualifying => s
  | .ready => s
  | .swapPrepared => s
  | .held => s
  | .fault => s

/-- A preparation of bay `b` is pending (R31). -/
def State.preparing (s : State) (b : BayId) : Bool := s.src.prep.pending && decide (s.src.prep.bay = b)

/-- The latch note of bay `b`'s pending preparation follows the accepted latch: an opening sets it and a closing
clears it (R35); under a hold that is all a latch change does (R25) (DEDUCED, assumption 20). -/
def noteLatch (b : BayId) (s : State) : State :=
  if s.preparing b then { s with src.prep.latchNote := !(s.bay b).latch.acc } else s

/-- The latch of bay `b` is left to its pending preparation: the bay feeds, or a forced change has made it READY
(R33, R35) (DEDUCED, assumption 20). -/
def State.latchWaits (s : State) (b : BayId) : Bool :=
  s.preparing b && (decide ((s.bay b).state = .feeding) || decide ((s.bay b).state = .ready))

/-- The accepted latch level of bay `b` is acted on outside a hold (R5, R35). -/
def applyLatch (b : BayId) (s : State) : State :=
  let s := noteLatch b s
  if s.latchWaits b then s
  else if (s.bay b).latch.acc then latchClosed b s
  else latchOpened b s

/-- Step 4 of the end of a hold for bay `b` while it is not FEEDING (R27). -/
def settleLatch (b : BayId) (s : State) : State :=
  if (s.bay b).state = .feeding then s else applyLatch b s

/-- Step 4 of the end of a hold (R27): the bays that are not FEEDING, A before B, then each bay that was passed over or
that has come to feed meanwhile. A latch level that has been applied has no further effect. -/
def settleLatches (s : State) : State :=
  applyLatch .bayB (applyLatch .bayA (settleLatch .bayB (settleLatch .bayA s)))

/-- Step 5 of the end of a hold (R27). -/
def runDeferred (s : State) : State :=
  if s.src.deferred then runSelection { s with src.deferred := false } else s

/-- The end of a shock hold (R27): HELD bays, held times, the list, latches, deferred selection, charge selection. The
hold is over from step 1, and step 1 runs no selection of its own (DESIGN CHOICE, assumption 39). -/
def holdEnd (s : State) : State :=
  let s := settleHeld .bayB (settleHeld .bayA { s with src.hold := false })
  let s := { s with src.bayA := s.src.bayA.stopHeld s.time, src.bayB := s.src.bayB.stopHeld s.time }
  selectCharge (runDeferred (settleLatches
    { s with src.listOut := some (s.src.interrupted.map s.interruption) }))

/-! ## Acceptances (R2) -/

/-- A raw level of a contact: its candidate starts, goes on or is discarded (R2). -/
def setRaw (c : Contact) (level : Bool) (s : State) : State :=
  match c with
  | .present b => s.setBay b { s.bay b with present := (s.bay b).present.setRaw s.time level }
  | .latch b => s.setBay b { s.bay b with latch := (s.bay b).latch.setRaw s.time level }
  | .chgDone => { s with src.chgDone := s.src.chgDone.setRaw s.time level }

/-- A pack is seated in an EMPTY bay (R3). -/
def seatPack (b : BayId) (s : State) : State :=
  let x := s.bay b
  let s := if x.latch.acc then startQualifying b s else setState b .seated s
  raise .baySeated (le 1 b.code ++ le 1 (s.bay b).state.code ++ flagByte x.latch.acc ++ le 2 x.mv) s

/-- PRESENT of bay `b` is accepted as present (R3, R26). -/
def packArrives (b : BayId) (s : State) : State :=
  match (s.bay b).state with
  | .empty => seatPack b s
  | .held => returnBay b s
  | .seated => s
  | .qualifying => s
  | .ready => s
  | .feeding => s
  | .swapPrepared => s
  | .releasing => s
  | .fault => s

/-- PRESENT of bay `b` is accepted as absent (R6, R7, R24). -/
def packLeaves (b : BayId) (s : State) : State :=
  match (s.bay b).state with
  | .empty => s
  | .held => s
  | .seated => if s.src.hold then holdBay b s else removePack b s
  | .qualifying => if s.src.hold then holdBay b s else removePack b s
  | .ready => if s.src.hold then holdBay b s else removePack b s
  | .feeding => if s.src.hold then holdBay b s else removePack b s
  | .swapPrepared => if s.src.hold then holdBay b s else removePack b s
  | .releasing => if s.src.hold then holdBay b s else removePack b s
  | .fault => if s.src.hold then holdBay b s else removePack b s

/-- A debounced change of PRESENT of bay `b` (R2, R3, R6, R24, R26). -/
def acceptPresent (b : BayId) (s : State) : State :=
  let x := s.bay b
  if x.present.ripe s.time s.setup.debounce then
    let s := s.setBay b { x with present := x.present.accept }
    if x.present.raw then packArrives b s else packLeaves b s
  else s

/-- A debounced change of LATCH of bay `b` (R2, R5, R25). -/
def acceptLatch (b : BayId) (s : State) : State :=
  let x := s.bay b
  if x.latch.ripe s.time s.setup.debounce then
    let s := s.setBay b { x with latch := x.latch.accept }
    if s.src.hold then noteLatch b s else applyLatch b s
  else s

/-- The end of charge of bay `b` (R21, R57): the record, CHARGE_DONE, charge select off, charge selection. -/
def endOfCharge (b : BayId) (s : State) : State :=
  let before := s.soc b
  let s := match s.gaugeRec b with
    | none => s
    | some r =>
      raise .chargeDone (le 1 b.code ++ le 2 (r.full / 3600) ++ le 2 ((r.full - r.remaining) / 3600))
        (socChanged b before (s.setGaugeRec b (some r.charged)))
  selectCharge (setCharge b false s)

/-- A debounced change of CHG_DONE (R2, R21). -/
def acceptChgDone (s : State) : State :=
  if s.src.chgDone.ripe s.time s.setup.debounce then
    let s := { s with src.chgDone := s.src.chgDone.accept }
    if s.src.chgDone.acc then
      if s.src.bayA.chargeSel then endOfCharge .bayA s
      else if s.src.bayB.chargeSel then endOfCharge .bayB s
      else s
    else s
  else s

/-! ## System state (R28) -/

/-- A raw level of SYSRUN[1:0]: the 8 ms hold of a new state starts, starts again, goes on or is discarded (R28)
(DESIGN CHOICE, assumption 18). -/
def setLines (l : SysrunLines) (s : State) : State :=
  { s with
    src.sysLines := l
    src.sysCand :=
      if sysOfLines l = s.src.sysState then none
      else if sysOfLines l = sysOfLines s.src.sysLines then (match s.src.sysCand with
        | some t => some t
        | none => some s.time)
      else some s.time }

/-- The new system state has held for 8 ms and is accepted and published (R28, R84, R89)
(DEDUCED, assumptions 18 and 26). -/
def acceptSysrun (s : State) : State :=
  match s.src.sysCand with
  | none => s
  | some t =>
    if 8 ≤ since s.time t then
      let old := s.src.sysState
      let new := sysOfLines s.src.sysLines
      let s := { s with src.sysState := new, src.sysCand := none, drv.sys := new }.touch .power
      brightSystem old new (judgeBacklight s)
    else s

/-! ## Power rounds (1.4, R8 to R12, R53) -/

/-- The runs of a pack monitor after a round (R8). -/
def Bay.runs (x : Bay) : Bay :=
  if x.mv < 9000 then { x with tripRun := min 3 (x.tripRun + 1), releaseRun := 0 }
  else if 9600 ≤ x.mv then { x with tripRun := 0, releaseRun := min 3 (x.releaseRun + 1) }
  else { x with tripRun := 0, releaseRun := 0 }

/-- A pack monitor trips: the gauge's empty trip, then the depleted flag of a READY or FEEDING bay, whose change runs
selection (R8, R9, R18, R58) (DEDUCED, assumption 21). -/
def tripPack (b : BayId) (s : State) : State :=
  let before := s.soc b
  let s := socChanged b before (gaugeTrip b (s.setBay b { s.bay b with monitor := .tripped }))
  let x := s.bay b
  if (x.state = .ready ∨ x.state = .feeding) ∧ x.depleted = false then
    runSelection ((s.setBay b { x with depleted := true }).touch .power)
  else s

/-- A pack monitor releases: with charge select on the depleted flag is cleared and selection runs (R8, R9). -/
def releasePack (b : BayId) (s : State) : State :=
  let x := s.bay b
  if x.chargeSel && x.depleted then
    runSelection ((s.setBay b { x with monitor := .released, depleted := false }).touch .power)
  else s.setBay b { x with monitor := .released }

/-- The states in which a pack monitor is evaluated: the seated states other than SEATED (R8). -/
def BayState.monitored : BayState → Bool
  | .qualifying => true
  | .ready => true
  | .feeding => true
  | .swapPrepared => true
  | .releasing => true
  | .empty => false
  | .seated => false
  | .held => false
  | .fault => false

/-- Bay `b`'s pack monitor takes the round (R8). It stands with its runs while the bay is SEATED: the rounds there break no
run, and the next round in QUALIFYING goes on with it (DESIGN CHOICE, assumption 47). -/
def monitorPack (b : BayId) (s : State) : State :=
  if (s.bay b).state.monitored then
    let s := s.setBay b (s.bay b).runs
    let x := s.bay b
    match x.monitor with
    | .released => if x.tripRun = 3 then tripPack b s else s
    | .tripped => if x.releaseRun = 3 then releasePack b s else s
  else s

/-- Bay `b`'s qualification check of a round (R4). -/
def checkWindow (b : BayId) (s : State) : State :=
  let x := s.bay b
  if x.state = .qualifying ∧ inRange x.mv = false then s.setBay b { x with clean := false } else s

/-- The runs of the bridge monitor after a round (R10). -/
def Source.bridgeRuns (c : Source) : Source :=
  { c with
    bridgeBelow := if c.bridgeMv < 3300 then min 3 (c.bridgeBelow + 1) else 0
    bridgeNotBelow := if c.bridgeMv < 3300 then 0 else min 3 (c.bridgeNotBelow + 1)
    bridgeHigh := if c.bridgeMv < 3600 then 0 else min 3 (c.bridgeHigh + 1) }

/-- The bridge monitor state a round's runs give (R10). -/
def Source.bridgeNext (c : Source) : BridgeMonitor :=
  match c.bridgeMonitor with
  | .ready => if c.bridgeBelow = 3 then .low else .ready
  | .recovering =>
    if c.bridgeBelow = 3 then .low else if c.bridgeHigh = 3 then .ready else .recovering
  | .low =>
    if c.bridgeHigh = 3 then .ready else if c.bridgeNotBelow = 3 then .recovering else .low

/-- The bridge monitor becomes `m`: BRIDGE_LOW, a trip while bridging, the cutoff flag, BR_CHG, selection (R10, R11,
R22, R43). -/
def setBridge (m : BridgeMonitor) (s : State) : State :=
  let s := evalBrChg { s with src.bridgeMonitor := m, src.cutoff := s.src.cutoff && decide (m ≠ .ready) }
  if m = .low then
    let s := raiseBridgeLow (decide (s.src.feeding = .bridge)) s.src.cutoff s
    if s.src.feeding = .bridge ∧ s.src.power = .bridge then rideEnds .bridgeTrip s else runSelection s
  else runSelection s

/-- The bridge monitor takes the round (R10). -/
def monitorBridge (s : State) : State :=
  let s := { s with src := s.src.bridgeRuns }
  let m := s.src.bridgeNext
  if m = s.src.bridgeMonitor then s else setBridge m s

/-- A feeding bridge below 3,000 mV is cut off (R11, R45): the monitor is LOW, the flag is set, and selection, which
finds the bridge unavailable, moves the load, tries emergency re-engagement, in EXHAUSTED too (DESIGN CHOICE,
assumption 34), or empties the set (DEDUCED, assumption 19). -/
def checkCutoff (s : State) : State :=
  if s.src.feeding = .bridge ∧ s.src.bridgeMv < 3000 then
    let wasLow := decide (s.src.bridgeMonitor = .low)
    let s := { s with src.bridgeMonitor := .low, src.cutoff := true }
    let s := if wasLow then s else raiseBridgeLow false true s
    evalBrChg (runSelection s)
  else s

/-- DC presence becomes `on` (R12): source selection, DC_CHANGE, and then charge selection. -/
def setDc (on : Bool) (s : State) : State :=
  let s := runSelection ({ s with src.dcPresent := on, src.dcRun := 0 }.touch .power)
  selectCharge (raise .dcChange (flagByte on ++ le 2 s.src.dcMv ++ le 1 s.src.power.code) s)

/-- The DC monitor takes the round (R12). -/
def monitorDc (s : State) : State :=
  if s.src.dcPresent then (if s.src.dcMv < 15500 then setDc false s else s)
  else if 17000 ≤ s.src.dcMv then
    if 4 ≤ s.src.dcRun then setDc true s else { s with src.dcRun := s.src.dcRun + 1 }
  else { s with src.dcRun := 0 }

/-- A HELD bay that waits with accepted PRESENT for a round in range returns at it (R26). -/
def returnWaiting (b : BayId) (s : State) : State :=
  if (s.bay b).state = .held ∧ (s.bay b).present.acc = true then returnBay b s else s

/-- The round's measurements are taken (1.4). -/
def takeRound (r : Round) (s : State) : State :=
  { s with
    src.bayA := { s.src.bayA with mv := r.mvA, code := r.codeA }
    src.bayB := { s.src.bayB with mv := r.mvB, code := r.codeB }
    src.bridgeMv := r.mvBridge
    src.dcMv := r.mvDc }

/-- The gauge counts the round in both records, then hands on what changed (R53, R56, R62). -/
def gaugeRound (s : State) : State :=
  let a := s.soc .bayA
  let b := s.soc .bayB
  let s := countBay .bayB (countBay .bayA s)
  let s := checkLow .bayB (checkLow .bayA s)
  socChanged .bayB b (socChanged .bayA a s)

/-- A power round (R53): measurements, gauge, windows, pack monitors, bridge, DC, and returns of HELD bays
(DEDUCED, assumption 8). -/
def powerRound (r : Round) (s : State) : State :=
  let s := gaugeRound (gatherSample (takeRound r s))
  let s := checkWindow .bayB (checkWindow .bayA s)
  let s := monitorPack .bayB (monitorPack .bayA s)
  let s := monitorDc (checkCutoff (monitorBridge s))
  returnWaiting .bayB (returnWaiting .bayA s)

/-! ## Preparations and their timers (R33, R35, R36) -/

/-- A set latch note is applied as if the latch opening had just been accepted (R35) (DEDUCED, assumption 20). -/
def applyNote (noted : Bool) (b : BayId) (s : State) : State := if noted && !s.src.hold then latchOpened b s else s

/-- The pending preparation's request, if it still has an entry, finishes. -/
def finishPreparation (code : ResultCode) (s : State) : State :=
  finishUnit .power code 0 [] { s with src.prep.request := none }

/-- The outcome of a preparation's switch-over for its bay (R33). -/
def prepareOutcome (b : BayId) (s : State) : State :=
  match (s.bay b).state with
  | .feeding =>
    if s.alternative b = .empty then finishPreparation .noSource s
    else finishPreparation .ok (enterPrepared b (switchOver (s.alternative b) s))
  | .ready => finishPreparation .ok (enterPrepared b s)
  | .empty => finishPreparation .wrongState s
  | .seated => finishPreparation .wrongState s
  | .qualifying => finishPreparation .wrongState s
  | .swapPrepared => finishPreparation .wrongState s
  | .releasing => finishPreparation .wrongState s
  | .held => finishPreparation .wrongState s
  | .fault => finishPreparation .wrongState s

/-- The switch-over event of a pending preparation (R33, R35) (DEDUCED, assumption 19). -/
def prepareSwitch (s : State) : State :=
  if s.src.prep.pending then
    let b := s.src.prep.bay
    let noted := s.src.prep.latchNote
    applyNote noted b { prepareOutcome b s with src.prep.pending := false, src.prep.latchNote := false }
  else s

/-- Bay `b` after its preparation has lapsed (R36, R37): the prior states that were SWAP_PREPARED become READY. -/
def Bay.lapsed (x : Bay) : Bay :=
  { x with
    prior := if x.prior = some .swapPrepared then some .ready else x.prior
    priorRel := if x.priorRel = some .swapPrepared then some .ready else x.priorRel
    prepTimer := none }

/-- A preparation ends with its bay (R36, R37): SWAP_PREPARED becomes READY with both selections, and the prior
states of a RELEASING or HELD bay become READY. -/
def lapse (b : BayId) (s : State) : State :=
  let x := s.bay b
  let s := s.setBay b x.lapsed
  if x.state = .swapPrepared then selectCharge (runSelection (enterReady b s)) else s

/-- The state of bay `b` after its preparation has lapsed. -/
def Bay.lapsedState (x : Bay) : BayState := if x.state = .swapPrepared then .ready else x.state

/-- The prepared timer of bay `b` expires (R36). SWAP_EXPIRED gives READY even where the selection of this event then
makes the bay FEEDING (DESIGN CHOICE, assumption 33). -/
def preparedExpiry (b : BayId) (s : State) : State :=
  match (s.bay b).prepTimer with
  | none => s
  | some t =>
    if t.due s.time then
      lapse b (raise .swapExpired (le 1 b.code ++ le 1 0 ++ le 1 (s.bay b).lapsedState.code) s)
    else s

/-- The ride-through timer expires (R42) (DEDUCED, assumption 20). -/
def rideExpiry (s : State) : State :=
  match s.src.rideTimer with
  | none => s
  | some t => if t.due s.time then rideEnds .rideThrough s else s

end Sys2Proof.Machine
end

