-- ==== Sys2Proof/Machine/Motion.lean ====
section
/-! DEFINITION. The Motion Unit: samples, free fall, fall outcomes, settling, drop records, park hold, fault and recovery (R103 to R126). -/

namespace Sys2Proof.Machine

/-! ## Samples (R104, R106) -/

/-- A 16-bit component as a count, if its upper bits are copies of its sign bit (R104). -/
def countOf (lo hi : Byte) : Option Int :=
  let v := (hi ++ lo : BitVec 16).toInt
  if -2048 ≤ v ∧ v ≤ 2047 then some v else none

/-- The sample a frame of seven bytes carries, or none when it is missing (R104). -/
def sampleOf (b0 b1 b2 b3 b4 b5 b6 : Byte) : Option Sample :=
  if b0 + b1 + b2 + b3 + b4 + b5 + b6 = 0 then
    match countOf b0 b1, countOf b2 b3, countOf b4 b5 with
    | some x, some y, some z => some { x := x, y := y, z := z }
    | _, _, _ => none
  else none

/-- What a slot's reading gives (R104). -/
def readingSample : SlotReading → Option Sample
  | .noAck => none
  | .noNewData => none
  | .frame b0 b1 b2 b3 b4 b5 b6 => sampleOf b0 b1 b2 b3 b4 b5 b6

/-- The square magnitude (R106). -/
def Sample.square (v : Sample) : Nat := (v.x * v.x + v.y * v.y + v.z * v.z).toNat

/-- The counters and the last good sample after a sample (R104). -/
def Motion.counted (m : Motion) (v : Option Sample) (now : Time) : Motion :=
  match v with
  | some x => { m with
      missingRun := 0
      goodRun := min 65535 (m.goodRun + 1)
      goodTotal := min 4294967295 (m.goodTotal + 1)
      last := x
      lastTime := now }
  | none => { m with
      goodRun := 0
      missingRun := min 65535 (m.missingRun + 1)
      missingTotal := min 4294967295 (m.missingTotal + 1) }

/-! ## FAULT (R119) -/

/-- The Motion Unit enters FAULT (R119). -/
def enterMotionFault (cause : MotionCause) (s : State) : State :=
  let s := { s with
    motion.state := .fault
    motion.candidate := none
    motion.restartCount := 0
    motion.faultStart := s.time
    motion.restartBase := s.time }
  (raise .motionFault (le 1 cause.code ++ le 3 s.motion.missingTotal ++ leBytes 4 s.motion.lastTime.toNat) s).touch
    .motion

/-! ## The candidate run (R107) -/

/-- The candidate run after a sample: `low` says that the sample is good and low (R107). -/
def stepRun (c : Option Candidate) (slot : BitVec 32) (low : Bool) (g : Nat) : Option Candidate :=
  match c with
  | none => if low then some { first := slot, length := 1, gap := 0 } else none
  | some r =>
    if low then some { r with length := r.length + 1, gap := 0 }
    else if g < r.gap + 1 then none
    else some { r with length := r.length + 1, gap := r.gap + 1 }

/-- A sample is low against F (R106); a missing one has no class. -/
def isLow (v : Option Sample) (f : Nat) : Bool :=
  match v with
  | none => false
  | some x => decide (x.square < f * f)

/-- The fall record a candidate run makes at qualification (R108). -/
def State.newFall (s : State) (r : Candidate) : Fall where
  sequence := s.motion.nextDrop
  startSlot := r.first
  time := s.time
  clock := s.clock.seconds
  clockSet := s.clock.set
  power := s.src.power
  f := s.motion.thresholds.f
  i := s.motion.thresholds.i
  settle := s.motion.thresholds.settle
  alert := s.motion.thresholds.alert
  outcome := none
  outcomeSlot := 0
  caught := 0
  settleTimer := { start := 0, len := 0 }
  peak := 0
  peakAt := { x := 0, y := 0, z := 0 }
  settleLost := false

/-- The drop sequence after `q` (R108). -/
def nextDropAfter (q : Nat) : Nat := if q = 4294967295 then 1 else q + 1

/-- Qualification of a candidate run (R108): the fall record, PARK#, the shock hold, FREE_FALL. -/
def qualify (r : Candidate) (s : State) : State :=
  let fall := s.newFall r
  let s := { s with
    motion.state := .falling
    motion.fall := some fall
    motion.nextDrop := nextDropAfter fall.sequence
    motion.candidate := none
    motion.parkTimer := none }
  raise .freeFall
    (le 4 fall.sequence ++ le 1 fall.power.code ++ le 1 fall.f ++ le 1 s.motion.thresholds.n)
    (holdStart (s.touch .motion))

/-- A sample judged in WATCHING (R107). -/
def judgeWatching (v : Option Sample) (s : State) : State :=
  let t := s.motion.thresholds
  let s := { s with motion.candidate := stepRun s.motion.candidate s.motion.slot (isLow v t.f) t.g }
  let s := match s.motion.candidate with
    | none => s
    | some r => if t.n ≤ r.length then qualify r s else s
  if s.motion.state = .watching ∧ 8 ≤ s.motion.missingRun then enterMotionFault .watchLost s else s

/-! ## The end of a fall's hold (R111, R114, R116) -/

/-- The MOTION_ARM off that waited for the fall's end takes effect and finishes OK (R123). -/
def takeDisarm (s : State) : State :=
  finishUnit .motion .ok 0 []
    { s with motion.state := .disarmed, motion.candidate := none, motion.disarmPending := false }

/-- The hold ends, the state becomes what the disarm and the loss say, and the park hold starts (R111, R114). -/
def endFall (lost : Option MotionCause) (s : State) : State :=
  let s := holdEnd s
  let s := (if s.motion.disarmPending then takeDisarm s
    else match lost with
      | some cause => enterMotionFault cause s
      | none => { s with motion.state := .watching, motion.candidate := none }).touch .motion
  { s with motion.parkTimer := some { start := s.time, len := s.motion.thresholds.park } }

/-! ## FALLING (R109) -/

/-- The fall with its peak after a good sample (R110, R114). -/
def Fall.peakWith (f : Fall) (v : Option Sample) : Fall :=
  match v with
  | none => f
  | some x => if f.peak < x.square then { f with peak := x.square, peakAt := x } else f

/-- The fall with its first peak, the sample that ended it (R110, R114). -/
def Fall.firstPeak (f : Fall) (v : Option Sample) : Fall :=
  match v with
  | none => { f with peak := 0, peakAt := { x := 0, y := 0, z := 0 } }
  | some x => { f with peak := x.square, peakAt := x }

/-- The fall has its outcome and the state becomes SETTLING (R109, R110). -/
def enterSettling (o : DropOutcome) (slot : BitVec 32) (v : Option Sample) (f : Fall) (s : State) : State :=
  { s with
    motion.state := .settling
    motion.fall := some { f.firstPeak v with
      outcome := some o
      outcomeSlot := slot
      settleTimer := { start := s.time, len := f.settle } } }.touch .motion

/-- The fall ends as SENSOR_LOST at the eighth missing sample (R109, R114). -/
def loseSensor (f : Fall) (s : State) : State :=
  endFall (some .fallLost)
    { s with motion.fall := some { f with outcome := some .sensorLost, outcomeSlot := s.motion.slot - 7 } }

/-- The offset of the present slot from the fall start (R109). -/
def State.fallOffset (s : State) (f : Fall) : Nat := (s.motion.slot - f.startSlot).toNat

/-- The fall goes on, unless the sample stands at offset 800: then it is abandoned (R109). -/
def fallOn (v : Option Sample) (f : Fall) (s : State) : State :=
  if s.fallOffset f = 800 then enterSettling .abandoned (f.startSlot + 800) v f s
  else { s with motion.fall := some (f.peakWith v) }

/-- A good sample judged in FALLING (R109). -/
def judgeGoodFalling (x : Sample) (f : Fall) (s : State) : State :=
  if f.i * f.i ≤ x.square then enterSettling .impact s.motion.slot (some x) f s
  else if x.square < f.f * f.f then fallOn (some x) { f with caught := 0 } s
  else if 40 ≤ f.caught + 1 then
    enterSettling .caught (s.motion.slot - 39) (some x) { f with caught := 40 } s
  else fallOn (some x) { f with caught := f.caught + 1 } s

/-- A sample judged in FALLING (R109). -/
def judgeFalling (v : Option Sample) (s : State) : State :=
  match s.motion.fall with
  | none => s
  | some f =>
    match v with
    | some x => judgeGoodFalling x f s
    | none =>
      if 8 ≤ s.motion.missingRun then loseSensor { f with caught := 0 } s
      else fallOn none { f with caught := 0 } s

/-! ## SETTLING (R110, R111) -/

/-- A sample judged in SETTLING (R110). -/
def judgeSettling (v : Option Sample) (s : State) : State :=
  match s.motion.fall with
  | none => s
  | some f =>
    { s with motion.fall := some { f.peakWith v with
      settleLost := f.settleLost || (v.isNone && decide (8 ≤ s.motion.missingRun)) } }

/-- The settle end (R111). -/
def settleEnd (s : State) : State :=
  match s.motion.state, s.motion.fall with
  | .settling, some f =>
    if f.settleTimer.due s.time then endFall (if f.settleLost then some .settleLost else none) s else s
  | _, _ => s

/-! ## Recovery (R120) -/

/-- A sample judged in FAULT (R120). The good run may stand at 16 or more when a SETTLE_LOST fault is entered: the next good
sample then recovers, and not the entry event (DESIGN CHOICE, assumption 43). -/
def judgeFault (s : State) : State :=
  if 16 ≤ s.motion.goodRun then
    let elapsed := since s.time s.motion.faultStart
    (raise .motionRecovered (le 4 elapsed ++ le 2 s.motion.restartCount)
      { s with motion.state := .watching, motion.candidate := none }).touch .motion
  else s

/-- The sample is judged by the state in force (R104). -/
def judgeSample (v : Option Sample) (s : State) : State :=
  match s.motion.state with
  | .disarmed => s
  | .watching => judgeWatching v s
  | .falling => judgeFalling v s
  | .settling => judgeSettling v s
  | .fault => judgeFault s

/-- A sample slot (R104, R105): in a slot that a restart occupies the sample is missing
(DESIGN CHOICE, assumption 29). -/
def sampleSlot (r : SlotReading) (s : State) : State :=
  let v := if s.motion.restartLeft = 0 then readingSample r else none
  let m := { s.motion with slot := s.motion.slot + 1, restartLeft := s.motion.restartLeft - 1 }
  judgeSample v { s with motion := m.counted v s.time }

/-- A link restart that is due in FAULT (R105): it is made unless the good run stands at 16 or more. -/
def linkRestart (s : State) : State :=
  if s.motion.state = .fault ∧ 1000 ≤ since s.time s.motion.restartBase then
    let s := { s with motion.restartBase := s.motion.restartBase + 1000 }
    if 16 ≤ s.motion.goodRun then s
    else { s with motion.restartLeft := 4, motion.restartCount := min 65535 (s.motion.restartCount + 1) }
  else s

/-! ## Completion of the drop record (R112, R113, R117) -/

/-- The fall time in ms (R109). -/
def Fall.ms (f : Fall) : Nat := (f.outcomeSlot - f.startSlot).toNat * 5 / 2

/-- The height in mm of a fall time (R112). -/
def heightOf (t : Nat) : Nat := t * t * 4903 / 1000000

/-- The peak in mg (R112). -/
def Fall.peakMg (f : Fall) : Nat := isqrt f.peak * 8

/-- The code of an axis with the sign of its component (12.6). -/
def signedAxis (plus : Nat) (v : Int) : Nat := if v < 0 then plus + 1 else plus

/-- The peak axis: NONE 0, +X 1, −X 2, +Y 3, −Y 4, +Z 5, −Z 6 (R112). -/
def Fall.axis (f : Fall) : Nat :=
  let x := f.peakAt.x.natAbs
  let y := f.peakAt.y.natAbs
  let z := f.peakAt.z.natAbs
  if x = 0 ∧ y = 0 ∧ z = 0 then 0
  else if y ≤ x ∧ z ≤ x then signedAxis 1 f.peakAt.x
  else if z ≤ y then signedAxis 3 f.peakAt.y
  else signedAxis 5 f.peakAt.z

/-- The outcome's code; a completed fall has one. -/
def Fall.outcomeCode (f : Fall) : Nat := (f.outcome.map DropOutcome.code).getD 0xFF

/-- An entry of the interruption list as four bytes (12.5). -/
def Interruption.bytes (x : Interruption) : List Byte := le 1 x.bay.code ++ le 1 x.outcome.code ++ le 2 x.heldMs

/-- The fields from the outcome to the power state (12.5). -/
def Fall.middle (f : Fall) : List Byte :=
  le 1 f.outcomeCode ++ flagByte f.settleLost ++ le 1 f.axis ++ le 1 f.power.code

/-- The fields t, height, peak (12.5). -/
def Fall.measures (f : Fall) : List Byte := le 2 f.ms ++ le 2 (heightOf f.ms) ++ le 2 f.peakMg

/-- The two list entries, empty ones zero (12.5). -/
def entriesBytes (l : List Interruption) : List Byte := padTo 8 0 (l.flatMap Interruption.bytes)

/-- The 64 bytes of a drop table place (R117, 12.5). -/
def Fall.place (f : Fall) (l : List Interruption) : List Byte :=
  padTo 64 0 (le 4 f.sequence ++ leBytes 4 f.time.toNat ++ leBytes 4 f.clock.toNat ++ flagByte f.clockSet ++ f.middle
    ++ [0] ++ f.measures ++ le 1 l.length ++ [0, 0, 0] ++ entriesBytes l)

/-- The 28 bytes of a DROP record's payload (12.5). -/
def Fall.payload (f : Fall) (l : List Interruption) : List Byte :=
  le 4 f.sequence ++ leBytes 4 f.time.toNat ++ f.middle ++ f.measures ++ le 1 l.length ++ [0] ++ entriesBytes l

/-- The DROP record (R113, R132): its clock is that of the qualification. -/
def Fall.record (f : Fall) (l : List Interruption) : HistRecord :=
  { kind := .drop, clockUnset := !f.clockSet, clock := f.clock, payload := f.payload l }

/-- DROP_RECORDED's payload, with the two exceptions of R190; the shared byte of outcome and list count stands where R183
lists the outcome (DESIGN CHOICE, assumption 44). -/
def Fall.noticePayload (f : Fall) (l : List Interruption) : List Byte :=
  leBytes 3 f.sequence ++ le 1 (f.outcomeCode + 16 * l.length) ++ le 2 (heightOf f.ms) ++ le 2 f.peakMg

/-- The record of a fall is completed with its interruption list (R113, R117, R118) (DESIGN CHOICE, assumption 30). -/
def completeFall (f : Fall) (l : List Interruption) (s : State) : State :=
  let s := s.xwrite (dropBase ((f.sequence - 1) % 8)) (f.place l)
  let s := raise .dropRecorded (f.noticePayload l) (handRecord (f.record l) s)
  let s := if f.outcome = some .impact ∧ f.alert ≤ heightOf f.ms then giveGroup dropGroup s else s
  { s with motion.fall := none, motion.lastDrop := f.sequence }

/-- The interruption list arrives for the fall whose hold has ended (R113, R116). -/
def listArrival (s : State) : State :=
  match s.src.listOut, s.motion.fall with
  | some l, some f => completeFall f l { s with src.listOut := none }
  | _, _ => s

/-! ## The park hold (R115) -/

/-- The park hold timer expires (R115). -/
def parkExpiry (s : State) : State :=
  match s.motion.parkTimer with
  | none => s
  | some t => if t.due s.time then { s with motion.parkTimer := none } else s

end Sys2Proof.Machine
end

