-- ==== Sys2Proof/Machine/Requests.lean ====
section
/-! DEFINITION. The Request Engine: the service of the twenty requests, the intake queue, busy units, postings, abandonment (R164 to R178). -/

namespace Sys2Proof.Machine

/-- The result flags: bit n is set when argument n was clamped (12.2). -/
def clampFlags (clamped : List Bool) : Nat := flagBits clamped

/-! ## POWER requests -/

/-- A POWER request finishes. -/
def donePower (code : ResultCode) (flags : Nat) (data : List Byte) (s : State) : State :=
  finishUnit .power code flags data s

/-- SET_SOURCE_POLICY (R19). -/
def serveSetSourcePolicy (e : EntryId) (s : State) : State :=
  match policyOf (s.arg e 0 1) with
  | none => donePower .badArg 0 [] s
  | some p =>
    donePower .ok 0 [] (if p = s.src.policy then s else runSelection { s with src.policy := p })

/-- SET_PACK_WARN (R23). -/
def serveSetPackWarn (e : EntryId) (s : State) : State :=
  let v := s.arg e 0 1
  let flags := clampFlags [wasClamped 1 50 v]
  donePower (okOrClamped flags) flags [] { s with src.warn := clamp 1 50 v }

/-- A preparation of a FEEDING bay with an alternative is pending (R31, R32). -/
def pendPreparation (b : BayId) (e : EntryId) (s : State) : State :=
  { s with src.prep := { pending := true, bay := b, latchNote := false, request := some e, since := s.time } }

/-- SWAP_PREPARE of a bay (R32, steps 2 to 5). -/
def prepareBay (b : BayId) (e : EntryId) (s : State) : State :=
  match (s.bay b).state with
  | .ready => donePower .ok 0 [] (enterPrepared b s)
  | .feeding =>
    if (s.bay b).latchOpen ∨ s.alternative b = .empty then donePower .noSource 0 [] s
    else pendPreparation b e s
  | .empty => donePower .wrongState 0 [] s
  | .seated => donePower .wrongState 0 [] s
  | .qualifying => donePower .wrongState 0 [] s
  | .swapPrepared => donePower .wrongState 0 [] s
  | .releasing => donePower .wrongState 0 [] s
  | .held => donePower .wrongState 0 [] s
  | .fault => donePower .wrongState 0 [] s

/-- SWAP_PREPARE (R32). -/
def serveSwapPrepare (e : EntryId) (s : State) : State :=
  match bayOf (s.arg e 0 1) with
  | none => donePower .badArg 0 [] s
  | some b => prepareBay b e s

/-- A bay whose preparation SWAP_ABORT may end (R37). -/
def Bay.abortable (x : Bay) : Bool :=
  decide (x.state = .swapPrepared) || (decide (x.state = .releasing) && decide (x.prior = some .swapPrepared))

/-- SWAP_ABORT (R37). -/
def serveSwapAbort (e : EntryId) (s : State) : State :=
  match bayOf (s.arg e 0 1) with
  | none => donePower .badArg 0 [] s
  | some b =>
    if (s.bay b).abortable then donePower .ok 0 [] (lapse b s) else donePower .wrongState 0 [] s

/-- A pack's full capacity is set to `full` mAs (R61). -/
def setFull (b : BayId) (full : Nat) (s : State) : State :=
  match s.gaugeRec b with
  | none => s
  | some r =>
    socChanged b (s.soc b) (s.setGaugeRec b (some { r.withFull full with learn := false }))

/-- PACK_SET_CAPACITY (R61). -/
def servePackSetCapacity (e : EntryId) (s : State) : State :=
  match bayOf (s.arg e 0 1) with
  | none => donePower .badArg 0 [] s
  | some b =>
    if s.gaugeRec b = none ∨ (s.bay b).state = .held then donePower .wrongState 0 [] s
    else
      let v := s.arg e 2 2 * 3600
      let lo := fullLow s.setup.nominal
      let hi := fullHigh s.setup.nominal
      let flags := clampFlags [false, wasClamped lo hi v]
      let s := setFull b (clamp lo hi v) s
      donePower (okOrClamped flags) flags (le 2 (s.fullMah b) ++ le 1 (s.soc b)) s

/-! ## DISPLAY requests -/

/-- A DISPLAY request finishes. -/
def doneDisplay (code : ResultCode) (flags : Nat) (data : List Byte) (s : State) : State :=
  finishUnit .display code flags data s

/-- INSTALL_CURVE (R72, R73). -/
def serveInstallCurve (s : State) : State :=
  match s.stagedCurve with
  | .error (r, i) => doneDisplay .badArg 0 (le 1 r.code ++ le 1 i) s
  | .ok c => { s with bright.staged := some c }

/-- A two-byte signed value. -/
def signed16 (v : Nat) : Int := (BitVec.ofNat 16 v).toInt

/-- SET_BRIGHTNESS (R76). -/
def serveSetBrightness (e : EntryId) (s : State) : State :=
  match modeOf (s.arg e 0 1) with
  | none => doneDisplay .badArg 0 [] s
  | some mode =>
    let level := s.arg e 2 2
    let offset := signed16 (s.arg e 4 2)
    let flags := clampFlags
      [false, wasClamped 0 1000 level, decide (clampInt (-200) 200 offset ≠ offset)]
    let s := evaluate false { s with
      bright.mode := mode
      bright.manual := clamp 0 1000 level
      bright.offset := clampInt (-200) 200 offset }
    doneDisplay (okOrClamped flags) flags (le 1 mode.code ++ le 2 s.bright.manual ++ leInt 2 s.bright.offset) s

/-- SET_CEILINGS (R80). -/
def serveSetCeilings (e : EntryId) (s : State) : State :=
  let batt := s.arg e 0 2
  let bridge := s.arg e 2 2
  let threshold := s.arg e 4 4
  let reserve := s.arg e 8 1
  let flags := clampFlags [wasClamped 100 1000 batt, wasClamped 0 500 bridge, wasClamped 2000 120000 threshold,
    wasClamped 0 90 reserve]
  let s := evaluate true { s with
    bright.battCeil := clamp 100 1000 batt
    bright.bridgeCeil := clamp 0 500 bridge
    bright.threshold := clamp 2000 120000 threshold
    bright.reserve := clamp 0 90 reserve }
  doneDisplay (okOrClamped flags) flags
    (le 2 s.bright.battCeil ++ le 2 s.bright.bridgeCeil ++ le 3 s.bright.threshold ++ le 1 s.bright.reserve) s

/-- SET_FILTER (R82). -/
def serveSetFilter (e : EntryId) (s : State) : State :=
  let attack := s.arg e 0 1
  let release := s.arg e 1 1
  let ramp := s.arg e 2 2
  let flags := clampFlags [wasClamped 0 7 attack, wasClamped 0 7 release, wasClamped 1 1000 ramp]
  let s := { s with
    bright.attack := clamp 0 7 attack
    bright.release := clamp 0 7 release
    bright.ramp := clamp 1 1000 ramp }
  doneDisplay (okOrClamped flags) flags (le 1 s.bright.attack ++ le 1 s.bright.release ++ le 2 s.bright.ramp) s

/-- INDICATOR_PULSE (R99). -/
def serveIndicatorPulse (e : EntryId) (s : State) : State :=
  let count := s.arg e 0 1
  let on := s.arg e 2 2
  let off := s.arg e 4 2
  giveGroup
    { cls := .host, count := clamp 1 255 count, onMs := clamp 10 2000 on, offMs := clamp 10 2000 off,
      completed := 0, phaseOn := false, phaseStart := 0, entry := some e,
      flags := clampFlags [wasClamped 1 255 count, wasClamped 10 2000 on, wasClamped 10 2000 off] } s

/-! ## MOTION requests -/

/-- A MOTION request finishes. -/
def doneMotion (code : ResultCode) (flags : Nat) (data : List Byte) (s : State) : State :=
  finishUnit .motion code flags data s

/-- The thresholds as result data (R121). -/
def Thresholds.data (t : Thresholds) : List Byte :=
  le 1 t.f ++ le 1 t.n ++ le 1 t.g ++ le 2 t.i ++ le 2 t.settle ++ le 2 t.park ++ le 2 t.alert

/-- The seven arguments of SET_DROP_THRESHOLDS as they stand (12.3). -/
def State.thresholdArgs (s : State) (e : EntryId) : Thresholds where
  f := s.arg e 0 1
  n := s.arg e 1 1
  g := s.arg e 2 1
  i := s.arg e 4 2
  settle := s.arg e 6 2
  park := s.arg e 8 2
  alert := s.arg e 10 2

/-- The thresholds clamped into their ranges (R121). -/
def Thresholds.clamped (t : Thresholds) : Thresholds where
  f := clamp 13 125 t.f
  n := clamp 8 200 t.n
  g := clamp 0 7 t.g
  i := clamp 250 2047 t.i
  settle := clamp 100 1000 t.settle
  park := clamp 100 5000 t.park
  alert := clamp 100 5000 t.alert

/-- The flags of the clamped thresholds (R121). -/
def Thresholds.flags (t : Thresholds) : Nat :=
  clampFlags [wasClamped 13 125 t.f, wasClamped 8 200 t.n, wasClamped 0 7 t.g, wasClamped 250 2047 t.i,
    wasClamped 100 1000 t.settle, wasClamped 100 5000 t.park, wasClamped 100 5000 t.alert]

/-- SET_DROP_THRESHOLDS (R121). -/
def serveSetDropThresholds (e : EntryId) (s : State) : State :=
  let t := s.thresholdArgs e
  doneMotion (okOrClamped t.flags) t.flags t.clamped.data { s with
    motion.thresholds := t.clamped
    motion.candidate := if s.motion.state = .watching then none else s.motion.candidate }

/-- MOTION_ARM on (R122). -/
def armOn (s : State) : State :=
  doneMotion .ok 0 [] (match s.motion.state with
    | .disarmed =>
      { s with motion.state := .watching, motion.candidate := none, motion.missingRun := 0 }.touch .motion
    | .watching => s
    | .falling => s
    | .settling => s
    | .fault => s)

/-- MOTION_ARM off (R123). -/
def armOff (s : State) : State :=
  match s.motion.state with
  | .disarmed => doneMotion .ok 0 [] s
  | .watching =>
    doneMotion .ok 0 [] ({ s with motion.state := .disarmed, motion.candidate := none }.touch .motion)
  | .fault =>
    doneMotion .ok 0 [] ({ s with motion.state := .disarmed, motion.candidate := none }.touch .motion)
  | .falling => { s with motion.disarmPending := true }
  | .settling => { s with motion.disarmPending := true }

/-- MOTION_ARM (R122, R123). -/
def serveMotionArm (e : EntryId) (s : State) : State :=
  match switchOf (s.arg e 0 1) with
  | none => doneMotion .badArg 0 [] s
  | some true => armOn s
  | some false => armOff s

/-! ## HISTORY requests -/

/-- A HISTORY request finishes. -/
def doneHistory (code : ResultCode) (flags : Nat) (data : List Byte) (s : State) : State :=
  finishUnit .history code flags data s

/-- HISTORY_APPEND_NOTE (R143): the length is judged before any byte is read (R191). -/
def serveAppendNote (e : EntryId) (s : State) : State :=
  let length := s.arg e 0 2
  if 48 < length then doneHistory .badArg 0 [] s
  else
    let bytes := memReadBytes exchangeDefault s.link.memory (entryBase e + 10) length
    { s with hist.note := some { record := s.stamped .note bytes, started := false, entry := some e } }

/-- The window mapping becomes `m`; a change updates the part page (R142, R187). -/
def setMapping (m : Option Nat) (s : State) : State :=
  if s.hist.mapped = m then s else { s with hist.mapped := m }.touch .part

/-- HISTORY_MAP (R142) (DESIGN CHOICE, assumption 12). -/
def serveHistoryMap (e : EntryId) (s : State) : State :=
  let v := s.arg e 0 1
  if v = 0xFF then doneHistory .ok 0 [0xFF] (setMapping none s)
  else if v < 64 then doneHistory .ok 0 (le 1 v) (setMapping (some v) s)
  else doneHistory .badArg 0 (optByte s.hist.mapped) s

/-- HISTORY_PROTECT (R138) (DESIGN CHOICE, assumption 12). -/
def serveHistoryProtect (e : EntryId) (s : State) : State :=
  let b := s.arg e 0 1
  if b < 8 ∨ 63 < b then doneHistory .badArg 0 [] s
  else if s.hist.boundary < b then doneHistory .isProtected 0 [] s
  else if b = s.hist.boundary then doneHistory .ok 0 [] s
  else { s with hist.protect := some { target := b, started := false, entry := some e } }

/-- The record HISTORY_LOCATE looks for (R145). -/
def History.locate (h : History) (q : Nat) : Option (Nat × Nat) :=
  if q = 0 then none
  else (h.valid.find? (fun x => slotSeq x.2.2 == q)).map (fun x => (x.1, x.2.1))

/-- The part of HISTORY_LOCATE's data that does not depend on what it found (R145) (DESIGN CHOICE, assumption 12). -/
def History.locateTail (h : History) : List Byte :=
  le 1 h.headSector ++ le 1 h.headSlot ++ le 4 (lowestSeq (h.valid.filter (fun x => decide (x.1 < h.boundary))))
    ++ le 4 h.nextSeq

/-- HISTORY_LOCATE (R145) (DESIGN CHOICE, assumption 13). -/
def serveHistoryLocate (e : EntryId) (s : State) : State :=
  match s.hist.locate (s.arg e 0 4) with
  | some (sector, slot) => doneHistory .ok 0 (le 1 sector ++ le 1 slot ++ s.hist.locateTail) s
  | none => doneHistory .notFound 0 (0xFF :: 0xFF :: s.hist.locateTail) s

/-- A HISTORY request in FAULT finishes FAULT with no other effect (R141). -/
def unlessHistoryFault (f : State → State) (s : State) : State :=
  if s.hist.fault.isSome then doneHistory .fault 0 [] s else f s

/-! ## LINK requests -/

/-- The nine setup values as result data (R173) (DESIGN CHOICE, assumption 12). -/
def Setup.data (t : Setup) : List Byte :=
  le 2 t.period ++ flagByte t.swapped ++ flagByte t.inverted ++ le 1 t.minOn ++ le 1 t.debounce ++ le 2 t.onDelay
    ++ le 2 t.nominal ++ le 2 t.rideLimit ++ le 2 t.prepTimeout

/-- The setup values a SETUP asks for, clamped into their ranges (R173). -/
def State.setupArgs (s : State) (e : EntryId) (swapped inverted : Bool) : Setup where
  period := clamp 240 6000 (s.arg e 0 2)
  swapped := swapped
  inverted := inverted
  minOn := clamp 0 32 (s.arg e 4 1)
  debounce := clamp 0 7 (s.arg e 5 1)
  onDelay := clamp 0 1000 (s.arg e 6 2)
  nominal := clamp 1000 12000 (s.arg e 8 2)
  rideLimit := clamp 10 600 (s.arg e 10 2)
  prepTimeout := clamp 10 300 (s.arg e 12 2)

/-- The flags of a SETUP's clamped values (R173, 12.3). -/
def State.setupFlags (s : State) (e : EntryId) : Nat :=
  clampFlags [wasClamped 240 6000 (s.arg e 0 2), false, false, wasClamped 0 32 (s.arg e 4 1),
    wasClamped 0 7 (s.arg e 5 1), wasClamped 0 1000 (s.arg e 6 2), wasClamped 1000 12000 (s.arg e 8 2),
    wasClamped 10 600 (s.arg e 10 2), wasClamped 10 300 (s.arg e 12 2)]

/-- A new nominal capacity clamps bay `b`'s record (R60). -/
def clampRecord (b : BayId) (s : State) : State :=
  match s.gaugeRec b with
  | none => s
  | some r =>
    socChanged b (s.soc b)
      (s.setGaugeRec b (some (r.withFull (clamp (fullLow s.setup.nominal) (fullHigh s.setup.nominal) r.full))))

/-- An accepted SETUP (R173, R174): the values, the latch, and the blocks that use them (R60, R85, R94)
(DEDUCED, assumption 22: the order of the blocks, and bay A's record clamped and its SoC event handed on before bay B's
record is clamped). -/
def acceptSetup (v : Setup) (s : State) : State :=
  let changed := decide (v.nominal ≠ s.setup.nominal)
  let s := { s with setup := v, link.setupTaken := true }.touch .part
  let s := if changed then clampRecord .bayB (clampRecord .bayA s) else s
  driverSetup (handCompare s)

/-- SETUP (R173). -/
def serveSetup (e : EntryId) (s : State) : State :=
  if s.link.setupTaken then finishEntry e .alreadySet 0 s.setup.data s
  else
    match switchOf (s.arg e 2 1), switchOf (s.arg e 3 1) with
    | some swapped, some inverted =>
      let v := s.setupArgs e swapped inverted
      let flags := s.setupFlags e
      finishEntry e (okOrClamped flags) flags v.data (acceptSetup v s)
    | _, _ => finishEntry e .badArg 0 [] s

/-- SET_CLOCK (R175). -/
def serveSetClock (e : EntryId) (s : State) : State :=
  let new := s.arg e 0 4
  let before := leBytes 4 s.clock.seconds.toNat ++ flagByte s.clock.set
  let s := { s with clock := { seconds := BitVec.ofNat 32 new, set := true, base := s.time } }
  let s := handRecord (s.stamped .clock (before ++ le 4 new)) s
  finishEntry e .ok 0 before (s.touch .part)

/-- The route of kind `k` becomes `r` (R176). -/
def setRoute (k : Fin 23) (r : Route) (s : State) : State := { s with routes := s.routes.set k r }

/-- The notice kind an argument names (R176). -/
def noticeKindOf (v : Nat) : Option (Fin 23) := if h : v < 23 then some ⟨v, h⟩ else none

/-- NOTICE_ROUTE (R176). -/
def serveNoticeRoute (e : EntryId) (s : State) : State :=
  match noticeKindOf (s.arg e 0 1), switchOf (s.arg e 1 1), groupOf (s.arg e 2 1) with
  | some k, some notify, some group =>
    finishEntry e .ok 0 (flagByte notify ++ le 1 group.code) (setRoute k { notify := notify, group := group } s)
  | _, _, _ => finishEntry e .badArg 0 [] s

/-- Entry `t` leaves the intake queue and finishes WITHDRAWN (R169). -/
def withdrawEntry (t : EntryId) (s : State) : State :=
  finishEntry t .withdrawn 0 [] { s with req.intake := s.req.intake.filter (fun x => x ≠ t) }

/-- The entry an index names (R177). -/
def entryOf (v : Nat) : Option EntryId := if h : v < 16 then some ⟨v, h⟩ else none

/-- What a CANCEL of the ACTIVE entry `t` does, and its result code (R177, R100, R144). -/
def cancelActive (t : EntryId) (s : State) : ResultCode × State :=
  match reqKindOf (s.kindCode t) with
  | some .indicatorPulse => (.ok, endHostGroup (some .cancelled) s)
  | some .historyAppendNote =>
    match s.hist.note with
    | none => (.wrongState, s)
    | some n =>
      if n.started then (.tooLate, s)
      else (.ok, finishUnit .history .cancelled 0 [] { s with hist.note := none })
  | _ => (.wrongState, s)

/-- What a CANCEL of entry `t` does, and its result code (R177). -/
def cancelTarget (t : EntryId) (s : State) : ResultCode × State :=
  match s.entry t with
  | .free => (.wrongState, s)
  | .done => (.wrongState, s)
  | .posted => (.ok, withdrawEntry t s)
  | .active => cancelActive t s

/-- The target's index, state and result code as the CANCEL leaves them (R177); the index takes 1 byte, a width that R190
does not give (DESIGN CHOICE, assumption 12). -/
def State.cancelData (s : State) (t : EntryId) : List Byte :=
  le 1 t.val ++ leBytes 2 (s.entry t).word.toNat ++ [s.xread (entryBase t + 4)]

/-- CANCEL (R177). -/
def serveCancel (e : EntryId) (s : State) : State :=
  match entryOf (s.arg e 0 1) with
  | none => finishEntry e .badArg 0 [] s
  | some t =>
    if t = e then finishEntry e .badArg 0 [] s
    else
      let r := cancelTarget t s
      finishEntry e r.1 0 (r.2.cancelData t) r.2

/-! ## The queue -/

/-- The rule of a request judges entry `e`, which has become ACTIVE (R165, R167). -/
def serve (k : ReqKind) (e : EntryId) (s : State) : State :=
  match k with
  | .setup => serveSetup e s
  | .setClock => serveSetClock e s
  | .noticeRoute => serveNoticeRoute e s
  | .cancel => serveCancel e s
  | .setSourcePolicy => serveSetSourcePolicy e s
  | .swapPrepare => serveSwapPrepare e s
  | .swapAbort => serveSwapAbort e s
  | .packSetCapacity => servePackSetCapacity e s
  | .setPackWarn => serveSetPackWarn e s
  | .installCurve => serveInstallCurve s
  | .setBrightness => serveSetBrightness e s
  | .setCeilings => serveSetCeilings e s
  | .setFilter => serveSetFilter e s
  | .indicatorPulse => serveIndicatorPulse e s
  | .setDropThresholds => serveSetDropThresholds e s
  | .motionArm => serveMotionArm e s
  | .historyAppendNote => unlessHistoryFault (serveAppendNote e) s
  | .historyMap => unlessHistoryFault (serveHistoryMap e) s
  | .historyProtect => unlessHistoryFault (serveHistoryProtect e) s
  | .historyLocate => unlessHistoryFault (serveHistoryLocate e) s

/-- A unit is busy (R167). -/
def State.busy (s : State) (u : UnitId) : Bool :=
  match u with
  | .power => s.req.actPower.isSome || s.src.prep.pending
  | .display => s.req.actDisplay.isSome || s.bright.staged.isSome
  | .motion => s.req.actMotion.isSome || s.motion.disarmPending
  | .history => s.req.actHistory.isSome || s.hist.note.isSome || s.hist.protect.isSome || s.hist.scanning

/-- The unit that an entry waits for, by its kind. -/
def State.unitOf (s : State) (e : EntryId) : Option UnitId := (reqKindOf (s.kindCode e)).bind ReqKind.unit

/-- Entry `e` waits for a unit that is idle (R167). -/
def State.servable (s : State) (e : EntryId) : Bool :=
  match s.unitOf e with
  | none => false
  | some u => !s.busy u

/-- Entry `e` leaves the queue, becomes ACTIVE and is judged (R167). -/
def takeEntry (e : EntryId) (s : State) : State :=
  match reqKindOf (s.kindCode e) with
  | none => s
  | some k =>
    let s := { s with req.intake := s.req.intake.filter (fun x => x ≠ e) }.setEntry e .active
    match k.unit with
    | none => serve k e s
    | some u => serve k e (s.setActive u (some e))

/-- Idle units take their oldest queued entries, until none can (R167); at most `n` entries are taken. -/
def serveUpTo : Nat → State → State
  | 0, s => s
  | n + 1, s =>
    match s.req.intake.find? s.servable with
    | none => s
    | some e => serveUpTo n (takeEntry e s)

/-- Idle units take their oldest queued entries (R167). -/
def serveQueues (s : State) : State := serveUpTo s.req.intake.length s

/-- An accepted posting reaches the Request Engine (R165): a LINK request, and one of an idle unit, is served in this
event, so a reset taken after it frees the entry and undoes none of its effect (DESIGN CHOICE, assumption 46). -/
def postEntry (e : EntryId) (s : State) : State :=
  let s := s.setEntry e .posted
  match reqKindOf (s.kindCode e) with
  | none => finishEntry e .badKind 0 [] s
  | some k =>
    let s := { s with req.intake := s.req.intake ++ [e] }
    match k.unit with
    | none => takeEntry e s
    | some _ => s

/-! ## Abandonment (R172) -/

/-- Every entry leaves the queue, each unit loses its ACTIVE entry and keeps the work it started, and every state word
becomes FREE (R172, R35, R101, R147). -/
def abandonAll (s : State) : State :=
  let s := { s with req := { s.req with
    intake := [], actPower := none, actDisplay := none, actMotion := none, actHistory := none } }
  let s := historyReset (endHostGroup none { s with src.prep.request := none })
  { s with req.entries := Vector.replicate 16 .free }

end Sys2Proof.Machine
end

