-- ==== Sys2Proof/Machine/Pages.lean ====
section
/-! DEFINITION. The four live pages: their fields (R86, R102, R124, R186, R187, 12.5) and their updates (R184, R185). -/

namespace Sys2Proof.Machine

/-! ## Fields: the bytes of a page from offset 6 on -/

/-- The head and the next sequence number, each 0 until the start-up scan is over (R146, R187). -/
def History.logFields (h : History) : List Byte :=
  if h.scanning then List.replicate 6 0 else le 1 h.headSector ++ le 1 h.headSlot ++ le 4 h.nextSeq

/-- The part page (R187, 12.5). -/
def State.partFields (s : State) : List Byte :=
  leBytes 2 Config.ident.toNat ++ le 1 s.link.resetCause.code ++ flagByte s.link.setupTaken
    ++ leBytes 4 s.clock.seconds.toNat ++ flagByte s.clock.set ++ optByte s.hist.mapped ++ le 2 s.hist.lost
    ++ leBytes 2 s.link.lastRefused.toNat ++ s.hist.logFields

/-- The gauge part of a bay block (R56, R186): zeros with no record. -/
def gaugeFields (r : Option GaugeRec) : List Byte :=
  match r with
  | none => List.replicate 8 0
  | some r => le 2 (r.remaining / 3600) ++ le 2 (r.full / 3600) ++ le 2 r.satCount ++ le 2 r.residual

/-- A record's learn flag. -/
def learnOf (r : Option GaugeRec) : Bool :=
  match r with
  | none => false
  | some r => r.learn

/-- The flags of a bay block (12.5). -/
def bayFlags (x : Bay) (r : Option GaugeRec) : Nat :=
  flagBits [x.present.acc, x.latch.acc, x.depleted, x.latchOpen, x.chargeSel, decide (x.monitor = .tripped),
    learnOf r, r.isSome]

/-- A bay block of 32 bytes (R186, 12.5). -/
def State.bayBlock (s : State) (b : BayId) : List Byte :=
  let x := s.bay b
  let r := s.gaugeRec b
  padTo 32 0 (le 1 x.state.code ++ optByte (x.prior.map BayState.code) ++ optByte (x.priorRel.map BayState.code)
    ++ le 1 (bayFlags x r) ++ le 2 x.mv ++ leInt 2 (sampleMa x.code) ++ le 2 (x.heldNow s.time)
    ++ optByte (x.outcome.map HoldOutcome.code) ++ le 1 (s.soc b) ++ le 4 (timerLeft x.prepTimer s.time)
    ++ gaugeFields r)

/-- The power page (R186, 12.5). -/
def State.powerFields (s : State) : List Byte :=
  s.bayBlock .bayA ++ s.bayBlock .bayB
    ++ le 2 s.src.bridgeMv ++ le 1 s.src.bridgeMonitor.code ++ le 1 (flagBits [s.src.cutoff, s.src.brChg])
    ++ le 2 s.src.dcMv ++ flagByte s.src.dcPresent ++ le 1 s.src.feeding.code ++ le 1 s.src.power.code
    ++ le 1 (flagBits [s.src.exhLatch, s.shutdownRequested]) ++ le 4 (timerLeft s.src.rideTimer s.time)
    ++ le 1 s.src.policy.code ++ le 1 s.src.warn ++ le 1 s.src.sysState.code ++ [0]
    ++ leInt 2 s.gauge.avg ++ le 2 s.timeToEmpty

/-- The active group's class and pulses completed (R102). With none the class reads 0xFF (12.5), and the pulses
completed read 0 (DESIGN CHOICE, assumption 36). -/
def activeFields (g : Option Group) : List Byte :=
  match g with
  | none => [0xFF, 0]
  | some g => le 1 g.cls.code ++ le 1 g.completed

/-- The display page (R86, R102, 12.5). -/
def State.displayFields (s : State) : List Byte :=
  let x := s.bright
  le 1 x.gain.code ++ le 1 (flagBits [x.saturated, x.filterValid]) ++ le 2 x.lastCode ++ le 4 x.rawLux
    ++ le 4 x.filtered ++ le 1 x.origin.code ++ le 1 x.curve.length ++ le 2 x.curveLevel ++ le 1 x.mode.code
    ++ flagByte x.allowance ++ le 2 x.manual ++ leInt 2 x.offset ++ le 2 x.request ++ le 2 x.ceiling
    ++ le 2 x.target ++ le 2 x.current ++ le 2 x.compare ++ le 1 s.src.power.code ++ le 1 s.src.sysState.code
    ++ le 1 x.judgedSoc ++ le 1 x.reserve ++ le 2 x.battCeil ++ le 2 x.bridgeCeil ++ le 4 x.threshold
    ++ le 1 x.attack ++ le 1 x.release ++ le 2 x.ramp ++ le 1 s.drv.state.code
    ++ le 1 (flagBits [s.drv.configured, s.drv.swapped, s.drv.inverted]) ++ le 2 s.drv.activeCompare
    ++ le 2 s.drv.period ++ activeFields s.drv.active
    ++ le 1 (flagBits [s.drv.waitSwap.isSome, s.drv.waitDrop.isSome, s.drv.waitHost.isSome])

/-- The candidate run's length and gap count, 0 and 0 with none (R124). -/
def runFields (c : Option Candidate) : List Byte :=
  match c with
  | none => [0, 0]
  | some r => le 1 r.length ++ le 1 r.gap

/-- The fields of a fall in progress (R124), zeros with none (DESIGN CHOICE, assumption 25). -/
def State.fallFields (s : State) : List Byte :=
  match s.motion.fall with
  | none => List.replicate 12 0
  | some f => le 4 f.sequence ++ le 2 (s.fallOffset f) ++ le 1 f.caught ++ [0] ++ le 4 f.peak

/-- The fault start and the restart count, zeros outside FAULT (R124) (DESIGN CHOICE, assumption 25). -/
def faultFields (m : Motion) : List Byte :=
  if m.state = .fault then leBytes 4 m.faultStart.toNat ++ le 2 m.restartCount else List.replicate 6 0

/-- The motion page (R124, 12.5). -/
def State.motionFields (s : State) : List Byte :=
  let m := s.motion
  le 1 m.state.code ++ le 1 (flagBits [m.disarmPending, s.parkAsserted, s.shockHold]) ++ le 1 m.thresholds.f
    ++ le 1 m.thresholds.n ++ le 1 m.thresholds.g ++ [0] ++ le 2 m.thresholds.i ++ le 2 m.thresholds.settle
    ++ le 2 m.thresholds.park ++ le 2 m.thresholds.alert ++ le 2 (timerLeft m.parkTimer s.time)
    ++ leInt 2 m.last.x ++ leInt 2 m.last.y ++ leInt 2 m.last.z ++ le 4 m.last.square
    ++ leBytes 4 m.lastTime.toNat ++ runFields m.candidate ++ s.fallFields ++ le 4 m.goodTotal
    ++ le 4 m.missingTotal ++ le 2 m.missingRun ++ le 2 m.goodRun ++ faultFields m ++ le 4 m.nextDrop
    ++ le 4 m.lastDrop

/-- The fields of a page. -/
def State.pageFields (s : State) (p : PageId) : List Byte :=
  match p with
  | .part => s.partFields
  | .power => s.powerFields
  | .display => s.displayFields
  | .motion => s.motionFields

/-! ## Updates (R184) -/

/-- A page's open count. -/
def State.openCount (s : State) (p : PageId) : Nat := s.xreadLe p.base 2

/-- A page's close count. -/
def State.closeCount (s : State) (p : PageId) : Nat := s.xreadLe p.closeAt 2

/-- The open count after one more update: never 0 again (R184). -/
def nextCount (n : Nat) : Nat := if 65535 ≤ n then 1 else n + 1

/-- All of a page but its close count, as the update begun at this state writes it (R184, R190). -/
def State.pageImage (s : State) (p : PageId) : List Byte :=
  padTo (p.closeAt - p.base) 0
    (le 2 (nextCount (s.openCount p)) ++ leBytes 4 s.time.toNat ++ s.pageFields p)

/-- An update of page `p` begins: the open count, then the fields, each with its value now (R184)
(DESIGN CHOICE, assumption 30). -/
def beginUpdate (p : PageId) (s : State) : State :=
  (s.xwrite p.base (s.pageImage p)).setPage p { s.page p with cause := false, busy := true, again := false }

/-- The causes of page `p` that the event brought: they begin one update, or one more after the update under way; with
no link there is no page to write (R149, R185) (DEDUCED, assumption 11: for a refused write and a reset too, R152,
R163, R187). -/
def flushPage (p : PageId) (s : State) : State :=
  if (s.page p).cause then
    if !s.link.up then s.setPage p { s.page p with cause := false }
    else if (s.page p).busy then s.setPage p { s.page p with cause := false, again := true }
    else beginUpdate p s
  else s

/-- The update under way of page `p` ends: the close count equals the open count, and a waiting cause begins the
next (R184, R185). -/
def endUpdate (p : PageId) (s : State) : State :=
  if (s.page p).busy then
    let again := (s.page p).again
    let s := (s.xwrite p.closeAt (le 2 (s.openCount p))).setPage p { s.page p with busy := false, again := false }
    if again then s.touch p else s
  else s

/-- The page causes of the event are taken. -/
def flushPages (s : State) : State :=
  flushPage .motion (flushPage .display (flushPage .power (flushPage .part s)))

/-- A page's periodic update is due (R185). -/
def State.periodicDue (s : State) (p : PageId) : Bool :=
  match p.period with
  | none => false
  | some t => decide (t ≤ since s.time (s.page p).base)

/-- The periodic update of page `p` (R185): its timer, which started at cold start, goes on from its last expiry. -/
def periodicUpdate (p : PageId) (s : State) : State :=
  match p.period with
  | none => s
  | some t =>
    if s.periodicDue p then
      (s.setPage p { s.page p with base := (s.page p).base + BitVec.ofNat 32 t }).touch p
    else s

end Sys2Proof.Machine
end

