-- ==== Sys2Proof/Machine/Event.lean ====
section
/-! DEFINITION. What ends every event: held-back HOLDUPs, queued requests, the array's next work, live page updates. -/

namespace Sys2Proof.Machine

/-- The end of an event (R188, R167, R131, R185): HOLDUP notices and records are handed over, idle units take their
queued requests, the array takes its next work, and the pages whose causes came begin their updates
(DEDUCED, assumptions 7 and 23). -/
def endEvent (s : State) : State :=
  flushPages (arbitrate (issueHoldups (serveQueues (issueHoldups s))))

/-- An event of the part: it happens while the always-on supply is up (DESIGN CHOICE, assumptions 3 and 17). -/
def event (f : State → State) (s : State) : Host.Outcome State Fault Refusal :=
  .next (if s.powered then endEvent (f s) else s)

end Sys2Proof.Machine
end

