-- ==== Sys2Proof/Machine/Link.lean ====
section
/-! DEFINITION. The Link Port: host reads and writes, the write watch, the registers, link start, resets, and the supply (R148 to R163). -/

namespace Sys2Proof.Machine

/-- The Link Port serves host accesses: the supply is up, the link has started, PLTRST# is high (R149, R162). -/
def State.hostServed (s : State) : Bool := s.powered && s.link.up && !s.link.platformLow

/-- An access by the host: ignored while the port does not serve (R149, R162). -/
def hostAccess (f : State → State) (s : State) : State := if s.hostServed then f s else s

/-! ## Host reads (R148, R159) -/

/-- The high byte of a word. -/
def highByte (w : Half) : Byte := (w >>> 8).setWidth 8

/-- The low byte of a word. -/
def lowByte (w : Half) : Byte := w.setWidth 8

/-- Byte `k` of a word, 0 the low one. -/
def halfByte (w : Half) (k : Nat) : Byte := if k = 0 then lowByte w else highByte w

/-- The 16 bytes of a notice slot (R179, 12.4). -/
def State.slotBytes (s : State) (k : Fin 32) : List Byte :=
  let x := s.notices[k]
  le 1 (if k.val < 23 then k.val else 0xFF) ++ le 1 (flagBits [x.fresh, x.saturated]) ++ le 1 x.raised ++ [0]
    ++ leBytes 4 x.time.toNat ++ padTo 8 0 x.payload

/-- Byte `a` of the request table (R164, 12.2). -/
def State.entryByte (s : State) (a : Nat) : Byte :=
  if a % 64 < 2 then halfByte (s.entry (Fin.ofNat 16 ((a - 0x0100) / 64))).word (a % 64) else s.xread a

/-- Byte `a` of the exchange memory beneath the overlay, as it stands (R148). -/
def State.ramByte (s : State) (a : Nat) : Byte :=
  if 0x0100 ≤ a ∧ a < 0x0500 then s.entryByte a
  else if 0x0500 ≤ a ∧ a < 0x0700 then
    (s.slotBytes (Fin.ofNat 32 ((a - 0x0500) / 16))).getD (a % 16) 0
  else s.xread a

/-- Byte `a` of the exchange memory as a host reads it: the window follows the overlay (R159). -/
def State.hostByte (s : State) (a : Nat) : Byte :=
  if windowBase ≤ a then
    match s.hist.mapped with
    | none => s.ramByte a
    | some sector => s.hist.sectorByte sector (a - windowBase)
  else s.ramByte a

/-- The word that a read returns, of two bytes (R148). A byte that is not enabled is 0 (DESIGN CHOICE, assumption 37). -/
def wordOf (lo hi : Byte) (en : BitVec 2) : Half :=
  (if en.getLsbD 1 then hi else 0) ++ (if en.getLsbD 0 then lo else 0)

/-- A host read of the exchange memory at an even offset (R148, R149, R162). -/
def State.hostRead (s : State) (off : Nat) (en : BitVec 2) : Half :=
  if s.hostServed then wordOf (s.hostByte off) (s.hostByte (off + 1)) en else 0xFFFF

/-- LINK_CTRL as it reads (R156, 12.6). -/
def State.linkCtrl (s : State) : Half :=
  BitVec.ofNat 16
    (flagBits [s.link.arm, false, false, false, false, false, false, false, s.hist.mapped.isSome, s.link.setupTaken])

/-- A register as it stands (R156). -/
def State.register (s : State) (off : Nat) : Half :=
  if off = 0 then Config.ident
  else if off = 2 then s.link.attn.setWidth 16
  else if off = 6 then s.link.mask.setWidth 16
  else if off = 8 then s.linkCtrl
  else 0

/-- A host read of the register window (R148, R149, R162). -/
def State.registerRead (s : State) (off : Nat) (en : BitVec 2) : Half :=
  if s.hostServed then wordOf (lowByte (s.register off)) (highByte (s.register off)) en else 0xFFFF

/-! ## The write watch (R150 to R155) -/

/-- A write is refused (R152): OWNERSHIP, and the offset in the part page. -/
def refuseWrite (off : Nat) (s : State) : State :=
  { s.setAttn attnOwnership with link.lastRefused := BitVec.ofNat 16 off }.touch .part

/-- The enabled bytes of a write are stored (R148). -/
def storeWord (off : Nat) (w : Half) (en : BitVec 2) (s : State) : State :=
  let s := if en.getLsbD 0 then s.xwrite off [lowByte w] else s
  if en.getLsbD 1 then s.xwrite (off + 1) [highByte w] else s

/-- A full write to a request entry's state word (R153). A posting of a CANCEL after a link reset posts a FREE entry, as
R160 has it (DESIGN CHOICE, assumption 42). -/
def writeStateWord (e : EntryId) (off : Nat) (w : Half) (s : State) : State :=
  match s.entry e with
  | .free => if w = EntryState.posted.word then postEntry e s else refuseWrite off s
  | .done =>
    if w = EntryState.posted.word then postEntry e s
    else if w = EntryState.free.word then s.setEntry e .free
    else refuseWrite off s
  | .posted => if w = withdrawWord then withdrawEntry e s else refuseWrite off s
  | .active => refuseWrite off s

/-- The host owns the body of an entry in this state (R151). -/
def EntryState.bodyOwned : EntryState → Bool
  | .free => true
  | .done => true
  | .posted => false
  | .active => false

/-- A write to the request table (R151, R152, R153). -/
def writeEntry (off : Nat) (w : Half) (en : BitVec 2) (s : State) : State :=
  let e : EntryId := Fin.ofNat 16 ((off - 0x0100) / 64)
  if off % 64 = 0 then (if en = 3 then writeStateWord e off w s else refuseWrite off s)
  else if (s.entry e).bodyOwned then storeWord off w en s
  else refuseWrite off s

/-- A write to the notice table: a consume, or refused (R155). -/
def writeNotice (off : Nat) (w : Half) (en : BitVec 2) (s : State) : State :=
  if off % 16 = 2 ∧ en = 2 then consumeSlot (Fin.ofNat 32 ((off - 0x0500) / 16)) (highByte w).toNat s
  else refuseWrite off s

/-- A host write at an even offset of the exchange memory, judged by the write watch (R148, R150, R152); one with no
byte enabled, or at an odd offset, which the bus does not have, has no effect (DESIGN CHOICE, assumption 5). -/
def watchWrite (off : Nat) (w : Half) (en : BitVec 2) (s : State) : State :=
  if en = 0 ∨ off % 2 = 1 then s
  else if off < 0x0100 then refuseWrite off s
  else if off < 0x0500 then writeEntry off w en s
  else if off < 0x0700 then writeNotice off w en s
  else if off < 0x0900 then refuseWrite off s
  else if off < 0x0A00 then storeWord off w en s
  else if off < 0x0C00 then refuseWrite off s
  else storeWord off w en s

/-- A host write to the exchange memory (R148). -/
def hostWrite (off : Nat) (w : Half) (en : BitVec 2) (s : State) : State := hostAccess (watchWrite off w en) s

/-- The write of POSTED into entry `e`'s state word, when its body names `k` (R153, R165); with another kind in the
body that write is another request's posting, and this command does nothing (DESIGN CHOICE, assumption 4). -/
def hostPost (k : Option ReqKind) (e : EntryId) (s : State) : State :=
  if reqKindOf (s.kindCode e) = k then hostWrite (entryBase e) EntryState.posted.word 3 s else s

/-! ## Resets of the link (R160, R162) -/

/-- The effects a link reset and an assertion of PLTRST# have in common (R160). -/
def resetLink (cause : ResetCause) (s : State) : State :=
  let s := clearNotices (abandonAll s)
  { s with
    link.attn := 0
    link.resetCause := cause
    link.lastRefused := 0xFFFF }.touch .part

/-- PLTRST# is asserted (R162, R87): a staged curve is discarded, RESTART alone stands, the mask, ARM and the setup
latch are cleared. -/
def platformAssert (s : State) : State :=
  if s.link.platformLow then s
  else
    let s := resetLink .platform { s with bright.staged := none }
    { s with
      link.attn := attnRestart
      link.mask := 0
      link.arm := false
      link.setupTaken := false
      link.platformLow := true }

/-- PLTRST# is deasserted: the display settings return to their defaults, with an evaluation (R87)
(DEDUCED, assumption 7). -/
def platformDeassert (s : State) : State :=
  if s.link.platformLow then
    evaluate true { s with link.platformLow := false, bright := s.bright.defaults }
  else s

/-- Link start completes (R149): memory, entries, notices, registers, mapping, and the part page. -/
def startLink (s : State) : State :=
  if s.link.up then s
  else
    { clearNotices s with
      link := { Link.cold s.link.platformLow with up := true, attn := attnRestart }
      req.entries := Vector.replicate 16 .free
      hist.mapped := none }.touch .part

/-! ## The register window (R156 to R158) -/

/-- The low five bits of a word: the flag positions. -/
def flagPositions (w : Half) : BitVec 5 := w.setWidth 5

/-- A host read of ATTN (R158): ARM becomes 0 if ATTN# is asserted. The word read is kept in `Link.readData`
(DESIGN CHOICE, assumption 24). -/
def readAttn (en : BitVec 2) (s : State) : State :=
  if en = 0 then s
  else
    let value := s.registerRead 2 en
    { s with
      link.readData := value
      link.arm := s.link.arm && !(s.hostServed && s.attnAsserted) }

/-- A host write of ATTN_CLR (R156, R157). -/
def writeAttnClr (w : Half) (en : BitVec 2) (s : State) : State :=
  if en.getLsbD 0 then { s with link.attn := s.link.attn &&& ~~~flagPositions w } else s

/-- A host write of ATTN_MASK (R156). -/
def writeAttnMask (w : Half) (en : BitVec 2) (s : State) : State :=
  if en.getLsbD 0 then { s with link.mask := flagPositions w } else s

/-- A host write of LINK_CTRL's low byte (R156, R158, R160): the link reset first, then ARM. -/
def writeLinkCtrl (reset arm : Bool) (s : State) : State :=
  let s := if reset then resetLink .link s else s
  { s with link.arm := arm }

/-- A host write to the register window (R148, R156). -/
def writeRegister (off : Nat) (w : Half) (en : BitVec 2) (s : State) : State :=
  if off = 4 then writeAttnClr w en s
  else if off = 6 then writeAttnMask w en s
  else if off = 8 then (if en.getLsbD 0 then writeLinkCtrl (w.getLsbD 1) (w.getLsbD 0) s else s)
  else s

/-! ## The supply and the pins -/

/-- The levels of the pins. -/
def State.pins (s : State) : Pins where
  presentA := s.src.bayA.present.raw
  latchA := s.src.bayA.latch.raw
  presentB := s.src.bayB.present.raw
  latchB := s.src.bayB.latch.raw
  chgDone := s.src.chgDone.raw
  lines := s.src.sysLines
  platformLow := s.link.platformLow

/-- The part with its supply down: its array, its boundary field and its pins (DESIGN CHOICE, assumption 17). -/
def State.unpowered (s : State) (p : Pins) (array : List Host.Cell) (marks : BitVec 55) : State :=
  { State.cold s.pending s.draws p array marks with powered := false }

/-- Cold start (R29 and the cold starts of every block): the array and the boundary field are kept (R147)
(DESIGN CHOICE, assumptions 15 and 16). -/
def coldStart (s : State) : State := State.cold s.pending s.draws s.pins s.hist.array s.hist.marks

/-- The always-on supply is lost (R128, R137): an array operation is cut short (DESIGN CHOICE, assumptions 6 and 17). -/
def loseSupply (cells : List Byte) (marks : BitVec 55) (s : State) : State :=
  if s.powered then
    let left := s.hist.cut cells marks
    s.unpowered s.pins left.1 left.2
  else s

/-- A change of a pin: an event while the supply is up, a new level for the next cold start while it is down
(DESIGN CHOICE, assumptions 1 and 17). -/
def pinEvent (f : State → State) (p : Pins → Pins) (s : State) : Host.Outcome State Fault Refusal :=
  if s.powered then event f s else .next (s.unpowered (p s.pins) s.hist.array s.hist.marks)

/-- The pins with contact `c` at `level`. -/
def Pins.setContact (c : Contact) (level : Bool) (p : Pins) : Pins :=
  match c with
  | .present .bayA => { p with presentA := level }
  | .present .bayB => { p with presentB := level }
  | .latch .bayA => { p with latchA := level }
  | .latch .bayB => { p with latchB := level }
  | .chgDone => { p with chgDone := level }

end Sys2Proof.Machine
end

