-- ==== Sys2Proof/Machine/ArrayCommands.lean ====
section
/-! DEFINITION. Meanings of the commands of completions of the history array. -/

namespace Sys2Proof.Machine

/-- PROGRAM_COMPLETION (R129, R135, R143). -/
def execProgramCompletion (cells : Option (List Byte)) (s : State) : Host.Outcome State Fault Refusal :=
  event (programDone cells) s

/-- ERASE_COMPLETION (R130). -/
def execEraseCompletion (cells : Option (List Byte)) (s : State) : Host.Outcome State Fault Refusal :=
  event (eraseDone cells) s

/-- ERASE_TIMEOUT (R130). -/
def execEraseTimeout (cells : List Byte) (s : State) : Host.Outcome State Fault Refusal :=
  event (eraseStopped cells) s

/-- BOUNDARY_STEP_COMPLETION (R137, R138). -/
def execBoundaryStepCompletion (marks : Option (BitVec 55)) (s : State) : Host.Outcome State Fault Refusal :=
  event (stepDone marks) s

end Sys2Proof.Machine
end

