-- ==== Sys2Proof/Machine/DisplayCommands.lean ====
section
/-! DEFINITION. Meanings of the commands of light samples, ramp steps, backlight and indicator timing. -/

namespace Sys2Proof.Machine

/-- LIGHT_SAMPLE (R67 to R71, R78). -/
def execLightSample (code : BitVec 10) (s : State) : Host.Outcome State Fault Refusal :=
  event (lightSample code.toNat) s

/-- RAMP_STEP (R81). -/
def execRampStep (s : State) : Host.Outcome State Fault Refusal := event rampStep s

/-- DELAY_EXPIRY (R90). -/
def execDelayExpiry (s : State) : Host.Outcome State Fault Refusal := event delayExpiry s

/-- FRAME_BOUNDARY (R91, R93). -/
def execFrameBoundary (s : State) : Host.Outcome State Fault Refusal := event frameBoundary s

/-- ON_TIME_END (R96). -/
def execOnTimeEnd (s : State) : Host.Outcome State Fault Refusal := event onTimeEnd s

/-- OFF_TIME_END (R96, R98). -/
def execOffTimeEnd (s : State) : Host.Outcome State Fault Refusal := event offTimeEnd s

end Sys2Proof.Machine
end

