-- ==== Sys2Proof/Machine/DropCommands.lean ====
section
/-! DEFINITION. Meanings of the commands of sample slots, restarts, settle end, list arrival, park hold. -/

namespace Sys2Proof.Machine

/-- SAMPLE_SLOT (R104, R107 to R110, R114, R120). -/
def execSampleSlot (r : SlotReading) (s : State) : Host.Outcome State Fault Refusal := event (sampleSlot r) s

/-- LINK_RESTART (R105). -/
def execLinkRestart (s : State) : Host.Outcome State Fault Refusal := event linkRestart s

/-- SETTLE_END (R111, R27). -/
def execSettleEnd (s : State) : Host.Outcome State Fault Refusal := event settleEnd s

/-- INTERRUPTION_LIST_ARRIVAL (R113, R116 to R118). -/
def execInterruptionListArrival (s : State) : Host.Outcome State Fault Refusal := event listArrival s

/-- PARK_HOLD_EXPIRY (R115). -/
def execParkHoldExpiry (s : State) : Host.Outcome State Fault Refusal := event parkExpiry s

end Sys2Proof.Machine
end

