-- ==== Sys2Proof/Machine/PageCommands.lean ====
section
/-! DEFINITION. Meanings of the commands of the service clock and the live pages. -/

namespace Sys2Proof.Machine

/-- The service clock advances, 1,000 ms after its present second began (R175). -/
def advanceClock (s : State) : State :=
  if 1000 ≤ since s.time s.clock.base then
    { s with clock.seconds := s.clock.seconds + 1, clock.base := s.clock.base + 1000 }.touch .part
  else s

/-- SERVICE_CLOCK_ADVANCE (R175). -/
def execServiceClockAdvance (s : State) : Host.Outcome State Fault Refusal := event advanceClock s

/-- PERIODIC_PAGE_UPDATE (R185). -/
def execPeriodicPageUpdate (p : PageId) (s : State) : Host.Outcome State Fault Refusal :=
  event (periodicUpdate p) s

/-- PAGE_UPDATE_END (R184, R185). -/
def execPageUpdateEnd (p : PageId) (s : State) : Host.Outcome State Fault Refusal := event (endUpdate p) s

end Sys2Proof.Machine
end

