-- ==== Sys2Proof/Machine/PortCommands.lean ====
section
/-! DEFINITION. Meanings of the commands of the host at the exchange memory and the register window. -/

namespace Sys2Proof.Machine

/-- HOST_WRITE (R148, R150 to R152): any exchange memory write, judged by the write watch
(DESIGN CHOICE, assumption 5). -/
def execHostWrite (off : BitVec 13) (w : Half) (en : BitVec 2) (s : State) : Host.Outcome State Fault Refusal :=
  event (hostWrite off.toNat w en) s

/-- WITHDRAW (R153, R169). -/
def execWithdraw (e : EntryId) (s : State) : Host.Outcome State Fault Refusal :=
  event (hostWrite (entryBase e) withdrawWord 3) s

/-- GIVE_BACK (R153, R170). -/
def execGiveBack (e : EntryId) (s : State) : Host.Outcome State Fault Refusal :=
  event (hostWrite (entryBase e) EntryState.free.word 3) s

/-- CONSUME (R155, R181): a write of the consumed byte alone. -/
def execConsume (k : Fin 32) (c : Byte) (s : State) : Host.Outcome State Fault Refusal :=
  event (hostWrite (slotBase k + 2) (c ++ (0 : Byte)) 2) s

/-- ATTN_READ (R158). -/
def execAttnRead (en : BitVec 2) (s : State) : Host.Outcome State Fault Refusal := event (readAttn en) s

/-- ATTN_CLR (R156, R157). -/
def execAttnClr (w : Half) (en : BitVec 2) (s : State) : Host.Outcome State Fault Refusal :=
  event (hostAccess (writeRegister 4 w en)) s

/-- ATTN_MASK (R156, R158). -/
def execAttnMask (w : Half) (en : BitVec 2) (s : State) : Host.Outcome State Fault Refusal :=
  event (hostAccess (writeRegister 6 w en)) s

/-- ARM (R156, R158): LINK_CTRL is written with LINK_RESET 0. -/
def execArm (on : Bool) (s : State) : Host.Outcome State Fault Refusal :=
  event (hostAccess (writeLinkCtrl false on)) s

/-- LINK_RESET (R156, R160): LINK_CTRL is written with LINK_RESET 1. -/
def execLinkReset (arm : Bool) (s : State) : Host.Outcome State Fault Refusal :=
  event (hostAccess (writeLinkCtrl true arm)) s

/-- REGISTER_WRITE_NO_EFFECT (R148, R156): a write to the register window. -/
def execRegisterWriteNoEffect (off : BitVec 4) (w : Half) (en : BitVec 2) (s : State) : Host.Outcome State Fault Refusal :=
  event (hostAccess (writeRegister off.toNat w en)) s

end Sys2Proof.Machine
end

