-- ==== Sys2Proof/Machine/PostingCommands.lean ====
section
/-! DEFINITION. Meanings of the commands of postings of the twenty requests, and BAD_KIND. -/

namespace Sys2Proof.Machine

/-- BAD_KIND (R165). -/
def execBadKind (e : EntryId) (s : State) : Host.Outcome State Fault Refusal := event (hostPost none e) s

/-- SETUP (R173, R174, R60, R85, R94). -/
def execSetup (e : EntryId) (s : State) : Host.Outcome State Fault Refusal :=
  event (hostPost (some .setup) e) s

/-- SET_CLOCK (R175). -/
def execSetClock (e : EntryId) (s : State) : Host.Outcome State Fault Refusal :=
  event (hostPost (some .setClock) e) s

/-- NOTICE_ROUTE (R176). -/
def execNoticeRoute (e : EntryId) (s : State) : Host.Outcome State Fault Refusal :=
  event (hostPost (some .noticeRoute) e) s

/-- CANCEL (R177). -/
def execCancel (e : EntryId) (s : State) : Host.Outcome State Fault Refusal :=
  event (hostPost (some .cancel) e) s

/-- SET_SOURCE_POLICY (R19). -/
def execSetSourcePolicy (e : EntryId) (s : State) : Host.Outcome State Fault Refusal :=
  event (hostPost (some .setSourcePolicy) e) s

/-- SWAP_PREPARE (R32). -/
def execSwapPrepare (e : EntryId) (s : State) : Host.Outcome State Fault Refusal :=
  event (hostPost (some .swapPrepare) e) s

/-- SWAP_ABORT (R37). -/
def execSwapAbort (e : EntryId) (s : State) : Host.Outcome State Fault Refusal :=
  event (hostPost (some .swapAbort) e) s

/-- PACK_SET_CAPACITY (R61). -/
def execPackSetCapacity (e : EntryId) (s : State) : Host.Outcome State Fault Refusal :=
  event (hostPost (some .packSetCapacity) e) s

/-- SET_PACK_WARN (R23). -/
def execSetPackWarn (e : EntryId) (s : State) : Host.Outcome State Fault Refusal :=
  event (hostPost (some .setPackWarn) e) s

/-- INSTALL_CURVE (R73). -/
def execInstallCurve (e : EntryId) (s : State) : Host.Outcome State Fault Refusal :=
  event (hostPost (some .installCurve) e) s

/-- SET_BRIGHTNESS (R76). -/
def execSetBrightness (e : EntryId) (s : State) : Host.Outcome State Fault Refusal :=
  event (hostPost (some .setBrightness) e) s

/-- SET_CEILINGS (R80). -/
def execSetCeilings (e : EntryId) (s : State) : Host.Outcome State Fault Refusal :=
  event (hostPost (some .setCeilings) e) s

/-- SET_FILTER (R82). -/
def execSetFilter (e : EntryId) (s : State) : Host.Outcome State Fault Refusal :=
  event (hostPost (some .setFilter) e) s

/-- INDICATOR_PULSE (R99). -/
def execIndicatorPulse (e : EntryId) (s : State) : Host.Outcome State Fault Refusal :=
  event (hostPost (some .indicatorPulse) e) s

/-- SET_DROP_THRESHOLDS (R121). -/
def execSetDropThresholds (e : EntryId) (s : State) : Host.Outcome State Fault Refusal :=
  event (hostPost (some .setDropThresholds) e) s

/-- MOTION_ARM (R122, R123). -/
def execMotionArm (e : EntryId) (s : State) : Host.Outcome State Fault Refusal :=
  event (hostPost (some .motionArm) e) s

/-- HISTORY_APPEND_NOTE (R143). -/
def execHistoryAppendNote (e : EntryId) (s : State) : Host.Outcome State Fault Refusal :=
  event (hostPost (some .historyAppendNote) e) s

/-- HISTORY_MAP (R142). -/
def execHistoryMap (e : EntryId) (s : State) : Host.Outcome State Fault Refusal :=
  event (hostPost (some .historyMap) e) s

/-- HISTORY_PROTECT (R138). -/
def execHistoryProtect (e : EntryId) (s : State) : Host.Outcome State Fault Refusal :=
  event (hostPost (some .historyProtect) e) s

/-- HISTORY_LOCATE (R145). -/
def execHistoryLocate (e : EntryId) (s : State) : Host.Outcome State Fault Refusal :=
  event (hostPost (some .historyLocate) e) s

end Sys2Proof.Machine
end

