-- ==== Sys2Proof/Machine/PowerCommands.lean ====
section
/-! DEFINITION. Meanings of the commands of contacts, latches, rounds, windows and timers of the Source Controller. -/

namespace Sys2Proof.Machine

/-- RAW_CONTACT_CHANGE (R2). -/
def execRawContactChange (c : Contact) (level : Bool) (s : State) : Host.Outcome State Fault Refusal :=
  pinEvent (setRaw c level) (Pins.setContact c level) s

/-- PRESENT_ACCEPTED (R2, R3, R6, R7, R24, R26). -/
def execPresentAccepted (b : BayId) (s : State) : Host.Outcome State Fault Refusal :=
  event (acceptPresent b) s

/-- LATCH_ACCEPTED (R2, R5, R25, R38). -/
def execLatchAccepted (b : BayId) (s : State) : Host.Outcome State Fault Refusal := event (acceptLatch b) s

/-- CHG_DONE_ACCEPTED (R2, R21, R57). -/
def execChgDoneAccepted (s : State) : Host.Outcome State Fault Refusal := event acceptChgDone s

/-- SYSRUN_CHANGE (R28, R84, R89). -/
def execSysrunChange (s : State) : Host.Outcome State Fault Refusal := event acceptSysrun s

/-- SYSRUN_LINE_CHANGE (R28). -/
def execSysrunLineChange (l : SysrunLines) (s : State) : Host.Outcome State Fault Refusal :=
  pinEvent (setLines l) (fun p => { p with lines := l }) s

/-- POWER_ROUND (R53, R4, R8 to R12, R26, R62, R63). -/
def execPowerRound (r : Round) (s : State) : Host.Outcome State Fault Refusal := event (powerRound r) s

/-- TTE_SECOND_CLOSE (R63). -/
def execTteSecondClose (s : State) : Host.Outcome State Fault Refusal := event closeSecond s

/-- QUALIFICATION_WINDOW_END (R4, R55). -/
def execQualificationWindowEnd (b : BayId) (s : State) : Host.Outcome State Fault Refusal :=
  event (qualificationEnd b) s

/-- PREPARATION_SWITCH_OVER (R33, R34, R35). -/
def execPreparationSwitchOver (s : State) : Host.Outcome State Fault Refusal := event prepareSwitch s

/-- PREPARED_TIMER_EXPIRY (R36). -/
def execPreparedTimerExpiry (b : BayId) (s : State) : Host.Outcome State Fault Refusal :=
  event (preparedExpiry b) s

/-- RIDE_THROUGH_EXPIRY (R42, R46). -/
def execRideThroughExpiry (s : State) : Host.Outcome State Fault Refusal := event rideExpiry s

end Sys2Proof.Machine
end

