-- ==== Sys2Proof/Machine/StartCommands.lean ====
section
/-! DEFINITION. Meanings of the commands of cold start, link start, scan end, PLTRST#, supply loss. -/

namespace Sys2Proof.Machine

/-- COLD_START (R29, R49, R65, R87, R95, R101, R126, R147). -/
def execColdStart (s : State) : Host.Outcome State Fault Refusal := .next (coldStart s)

/-- LINK_START (R149): the link starts once after a cold start. -/
def execLinkStart (s : State) : Host.Outcome State Fault Refusal := event startLink s

/-- START_UP_SCAN_END (R139, R140). -/
def execStartUpScanEnd (s : State) : Host.Outcome State Fault Refusal := event scanEnd s

/-- PLTRST_ASSERTION (R162, R172, R87, R101, R147). -/
def execPltrstAssertion (s : State) : Host.Outcome State Fault Refusal :=
  pinEvent platformAssert (fun p => { p with platformLow := true }) s

/-- PLTRST_DEASSERTION (R87). -/
def execPltrstDeassertion (s : State) : Host.Outcome State Fault Refusal :=
  pinEvent platformDeassert (fun p => { p with platformLow := false }) s

/-- ALWAYS_ON_SUPPLY_LOSS (R128, R137, R139): the array operation running is cut short. -/
def execAlwaysOnSupplyLoss (cells : List Byte) (marks : BitVec 55) (s : State) : Host.Outcome State Fault Refusal :=
  .next (loseSupply cells marks s)

end Sys2Proof.Machine
end

