-- ==== Sys2Proof/Machine/Timers.lean ====
section
/-! DEFINITION. Time: the commands that the part's own timers bring at the present part time (assumption 2). -/

namespace Sys2Proof.Machine

/-- Commands that come if their condition holds. -/
def dueIf (x : Bool) (c : Instr) : List Instr := if x then [c] else []

/-- Link start within 1 ms of the supply (R149), the end of the scan about 60 ms after it (R139)
(DESIGN CHOICE, assumption 2). -/
def State.dueStart (s : State) : List Instr :=
  dueIf (!s.link.up && decide (1 ≤ s.time.toNat)) .linkStart
    ++ dueIf (s.hist.scanning && decide (s.hist.op = .idle) && decide (60 ≤ s.time.toNat)) .startUpScanEnd

/-- The debounced inputs of bay `b` (R2). -/
def State.dueContacts (s : State) (b : BayId) : List Instr :=
  dueIf ((s.bay b).present.ripe s.time s.setup.debounce) (.presentAccepted b)
    ++ dueIf ((s.bay b).latch.ripe s.time s.setup.debounce) (.latchAccepted b)

/-- A new system state has held for 8 ms (R28). -/
def State.sysrunDue (s : State) : Bool :=
  match s.src.sysCand with
  | none => false
  | some t => decide (8 ≤ since s.time t)

/-- Whether a timer has run its length. -/
def timerDue (t : Option Timer) (now : Time) : Bool :=
  match t with
  | none => false
  | some t => t.due now

/-- The windows and timers of bay `b` (R4, R36). -/
def State.dueBay (s : State) (b : BayId) : List Instr :=
  dueIf (decide ((s.bay b).state = .qualifying) && decide (2000 ≤ since s.time (s.bay b).qualStart))
      (.qualificationWindowEnd b)
    ++ dueIf (timerDue (s.bay b).prepTimer s.time) (.preparedTimerExpiry b)

/-- The timers of the Source Controller and the gauge (R21, R28, R33, R42, R63); a pending preparation switches over
at the end of its 20 ms (DESIGN CHOICE, assumption 2). -/
def State.dueSource (s : State) : List Instr :=
  s.dueContacts .bayA ++ s.dueContacts .bayB
    ++ dueIf (s.src.chgDone.ripe s.time s.setup.debounce) .chgDoneAccepted
    ++ dueIf s.sysrunDue .sysrunChange
    ++ s.dueBay .bayA ++ s.dueBay .bayB
    ++ dueIf (s.src.prep.pending && decide (20 ≤ since s.time s.src.prep.since)) .preparationSwitchOver
    ++ dueIf (timerDue s.src.rideTimer s.time) .rideThroughExpiry
    ++ dueIf (decide (100 ≤ s.gauge.secCount)) .tteSecondClose

/-- The active group's present phase has run its time (R96). -/
def State.dueGroup (s : State) : List Instr :=
  match s.drv.active with
  | none => []
  | some g => dueIf (g.onEnded s.time) .onTimeEnd ++ dueIf (g.offEnded s.time) .offTimeEnd

/-- The on-delay of the Output Driver (R90). -/
def State.delayDue (s : State) : Bool :=
  decide (s.drv.state = .delay) && decide (s.drv.delayLen ≤ since s.time s.drv.delayStart)

/-- The settle window has run (R111). -/
def State.settleDue (s : State) : Bool :=
  match s.motion.fall with
  | none => false
  | some f => decide (s.motion.state = .settling) && f.settleTimer.due s.time

/-- The timers of the Motion Unit (R105, R111, R113, R115). -/
def State.dueMotion (s : State) : List Instr :=
  dueIf (s.src.listOut.isSome && s.motion.fall.isSome) .interruptionListArrival
    ++ dueIf s.settleDue .settleEnd
    ++ dueIf (decide (s.motion.state = .fault) && decide (1000 ≤ since s.time s.motion.restartBase)) .linkRestart
    ++ dueIf (timerDue s.motion.parkTimer s.time) .parkHoldExpiry

/-- The update under way of page `p`, and its periodic update (R184, R185). -/
def State.duePage (s : State) (p : PageId) : List Instr :=
  dueIf (s.page p).busy (.pageUpdateEnd p) ++ dueIf (s.periodicDue p) (.periodicPageUpdate p)

/-- The commands that the part's own timers bring at the present part time. -/
def State.dueCommands (s : State) : List Instr :=
  s.duePage .part ++ s.duePage .power ++ s.duePage .display ++ s.duePage .motion
    ++ s.dueStart ++ s.dueSource
    ++ dueIf s.delayDue .delayExpiry ++ s.dueGroup ++ s.dueMotion
    ++ dueIf (decide (1000 ≤ since s.time s.clock.base)) .serviceClockAdvance

/-- What passes while no command waits: the part's own timers bring what is due, or the next millisecond begins; with
the supply down nothing does (DESIGN CHOICE, assumption 2). -/
def idle (s : State) : State :=
  if s.powered then
    match s.dueCommands with
    | [] => { s with time := s.time + 1 }
    | cs => { s with pending := cs }
  else s

end Sys2Proof.Machine
end

