-- ==== Sys2Proof/Machine/Dispatch.lean ====
section
/-! DEFINITION. One arm per command: the meaning it calls. -/

namespace Sys2Proof.Machine

def exec (i : Instr) (s : State) : Host.Outcome State Fault Refusal :=
  match i with
  | .coldStart => Sys2Proof.Machine.execColdStart s
  | .linkStart => Sys2Proof.Machine.execLinkStart s
  | .startUpScanEnd => Sys2Proof.Machine.execStartUpScanEnd s
  | .pltrstAssertion => Sys2Proof.Machine.execPltrstAssertion s
  | .pltrstDeassertion => Sys2Proof.Machine.execPltrstDeassertion s
  | .rawContactChange c level => Sys2Proof.Machine.execRawContactChange c level s
  | .presentAccepted b => Sys2Proof.Machine.execPresentAccepted b s
  | .latchAccepted b => Sys2Proof.Machine.execLatchAccepted b s
  | .chgDoneAccepted => Sys2Proof.Machine.execChgDoneAccepted s
  | .sysrunChange => Sys2Proof.Machine.execSysrunChange s
  | .powerRound r => Sys2Proof.Machine.execPowerRound r s
  | .tteSecondClose => Sys2Proof.Machine.execTteSecondClose s
  | .qualificationWindowEnd b => Sys2Proof.Machine.execQualificationWindowEnd b s
  | .preparationSwitchOver => Sys2Proof.Machine.execPreparationSwitchOver s
  | .preparedTimerExpiry b => Sys2Proof.Machine.execPreparedTimerExpiry b s
  | .rideThroughExpiry => Sys2Proof.Machine.execRideThroughExpiry s
  | .lightSample code => Sys2Proof.Machine.execLightSample code s
  | .rampStep => Sys2Proof.Machine.execRampStep s
  | .delayExpiry => Sys2Proof.Machine.execDelayExpiry s
  | .frameBoundary => Sys2Proof.Machine.execFrameBoundary s
  | .onTimeEnd => Sys2Proof.Machine.execOnTimeEnd s
  | .offTimeEnd => Sys2Proof.Machine.execOffTimeEnd s
  | .sampleSlot r => Sys2Proof.Machine.execSampleSlot r s
  | .linkRestart => Sys2Proof.Machine.execLinkRestart s
  | .settleEnd => Sys2Proof.Machine.execSettleEnd s
  | .interruptionListArrival => Sys2Proof.Machine.execInterruptionListArrival s
  | .parkHoldExpiry => Sys2Proof.Machine.execParkHoldExpiry s
  | .programCompletion cells => Sys2Proof.Machine.execProgramCompletion cells s
  | .eraseCompletion cells => Sys2Proof.Machine.execEraseCompletion cells s
  | .eraseTimeout cells => Sys2Proof.Machine.execEraseTimeout cells s
  | .boundaryStepCompletion marks => Sys2Proof.Machine.execBoundaryStepCompletion marks s
  | .serviceClockAdvance => Sys2Proof.Machine.execServiceClockAdvance s
  | .periodicPageUpdate p => Sys2Proof.Machine.execPeriodicPageUpdate p s
  | .pageUpdateEnd p => Sys2Proof.Machine.execPageUpdateEnd p s
  | .hostWrite off w en => Sys2Proof.Machine.execHostWrite off w en s
  | .withdraw e => Sys2Proof.Machine.execWithdraw e s
  | .giveBack e => Sys2Proof.Machine.execGiveBack e s
  | .consume k c => Sys2Proof.Machine.execConsume k c s
  | .attnRead en => Sys2Proof.Machine.execAttnRead en s
  | .attnClr w en => Sys2Proof.Machine.execAttnClr w en s
  | .attnMask w en => Sys2Proof.Machine.execAttnMask w en s
  | .arm on => Sys2Proof.Machine.execArm on s
  | .linkReset arm => Sys2Proof.Machine.execLinkReset arm s
  | .registerWriteNoEffect off w en => Sys2Proof.Machine.execRegisterWriteNoEffect off w en s
  | .badKind e => Sys2Proof.Machine.execBadKind e s
  | .setup e => Sys2Proof.Machine.execSetup e s
  | .setClock e => Sys2Proof.Machine.execSetClock e s
  | .noticeRoute e => Sys2Proof.Machine.execNoticeRoute e s
  | .cancel e => Sys2Proof.Machine.execCancel e s
  | .setSourcePolicy e => Sys2Proof.Machine.execSetSourcePolicy e s
  | .swapPrepare e => Sys2Proof.Machine.execSwapPrepare e s
  | .swapAbort e => Sys2Proof.Machine.execSwapAbort e s
  | .packSetCapacity e => Sys2Proof.Machine.execPackSetCapacity e s
  | .setPackWarn e => Sys2Proof.Machine.execSetPackWarn e s
  | .installCurve e => Sys2Proof.Machine.execInstallCurve e s
  | .setBrightness e => Sys2Proof.Machine.execSetBrightness e s
  | .setCeilings e => Sys2Proof.Machine.execSetCeilings e s
  | .setFilter e => Sys2Proof.Machine.execSetFilter e s
  | .indicatorPulse e => Sys2Proof.Machine.execIndicatorPulse e s
  | .setDropThresholds e => Sys2Proof.Machine.execSetDropThresholds e s
  | .motionArm e => Sys2Proof.Machine.execMotionArm e s
  | .historyAppendNote e => Sys2Proof.Machine.execHistoryAppendNote e s
  | .historyMap e => Sys2Proof.Machine.execHistoryMap e s
  | .historyProtect e => Sys2Proof.Machine.execHistoryProtect e s
  | .historyLocate e => Sys2Proof.Machine.execHistoryLocate e s
  | .alwaysOnSupplyLoss cells marks => Sys2Proof.Machine.execAlwaysOnSupplyLoss cells marks s
  | .sysrunLineChange l => Sys2Proof.Machine.execSysrunLineChange l s

end Sys2Proof.Machine
end

