-- ==== Sys2Proof/Safety.lean ====
section
/-! DEFINITION. What holds between events: the laws the spec states over the whole part, a part with no work left, and the words the statements use for a next state. -/

namespace Sys2Proof.Machine

/-- Both byte memories are in canonical form. -/
abbrev State.MemoryLaw (s : State) : Prop :=
  memWf exchangeDefault s.link.memory = true ∧ memWf arrayDefault s.hist.array = true

/-- A notice slot: fresh is set exactly when the raised count is above zero, and the count is at most 255 (R179). -/
abbrev NoticeSlot.Law (x : NoticeSlot) : Prop := x.fresh = decide (0 < x.raised) ∧ x.raised ≤ 255

/-- The law of the notice table (R179). -/
abbrev State.NoticeLaw (s : State) : Prop := ∀ k : Fin 32, s.notices[k].Law

/-- Entry `e` is the ACTIVE entry of exactly the units that hold it. -/
abbrev State.holds (s : State) (u : UnitId) (e : EntryId) : Prop := s.active u = some e

/-- Two units never hold one entry, and a held entry is ACTIVE. -/
abbrev State.ActiveLaw (s : State) : Prop :=
  (∀ e : EntryId, s.holds .power e → s.entry e = .active ∧ ¬ s.holds .display e ∧ ¬ s.holds .motion e ∧ ¬ s.holds .history e)
    ∧ (∀ e : EntryId, s.holds .display e → s.entry e = .active ∧ ¬ s.holds .motion e ∧ ¬ s.holds .history e)
    ∧ (∀ e : EntryId, s.holds .motion e → s.entry e = .active ∧ ¬ s.holds .history e)
    ∧ (∀ e : EntryId, s.holds .history e → s.entry e = .active)

/-- The intake queue holds each POSTED entry once and no entry in any other state, each unit's entry is ACTIVE (R166), and
before the link starts every entry is FREE (R149, R164). -/
abbrev State.QueueLaw (s : State) : Prop :=
  s.req.intake.Nodup ∧ (∀ e : EntryId, e ∈ s.req.intake ↔ s.entry e = .posted) ∧ s.ActiveLaw
    ∧ (s.link.up = false → ∀ e : EntryId, s.entry e = .free)

/-- A bay is FEEDING exactly while it is the member of the feeding set (R13). -/
abbrev State.FeedLaw (s : State) : Prop :=
  (s.src.feeding = .bayA ↔ s.src.bayA.state = .feeding) ∧ (s.src.feeding = .bayB ↔ s.src.bayB.state = .feeding)

/-- The power state is the one that the feeding set and the exhaustion latch give (R14). -/
abbrev State.PowerLaw (s : State) : Prop := s.src.power = s.src.derivedPower

/-- The shock hold is asserted exactly while the motion state is FALLING or SETTLING (6.3, R116). -/
abbrev State.HoldLaw (s : State) : Prop := s.src.hold = s.shockHold

/-- The current level is within the ceiling (R79), and 0 outside RUN (R84). -/
abbrev State.LevelLaw (s : State) : Prop :=
  s.bright.current ≤ s.bright.ceiling ∧ (s.src.sysState ≠ .run → s.bright.current = 0)

/-- The compare is the one of the current level, and the driver has it with the level-zero mark (R83, R93). -/
abbrev State.CompareLaw (s : State) : Prop :=
  s.bright.compare = compareOf s.bright.current s.setup.period s.setup.minOn
    ∧ s.drv.nextCompare = s.bright.compare ∧ s.drv.levelZero = decide (s.bright.current = 0)

/-- The backlight is DARK exactly while it is held DARK (R89, R90), the active compare is 0 outside FRAMING (R88), and
the driver has the accepted system state. -/
abbrev State.DarkLaw (s : State) : Prop :=
  (s.drv.state = .dark ↔ s.drv.heldDark = true) ∧ (s.drv.state ≠ .framing → s.drv.activeCompare = 0)
    ∧ s.drv.sys = s.src.sysState

/-- A gauge record's ranges (R51): full within the bounds of the nominal capacity, remaining within full, sub within
±99, SoC as computed from the two. -/
abbrev GaugeRec.Law (r : GaugeRec) (nominal : Nat) : Prop :=
  fullLow nominal ≤ r.full ∧ r.full ≤ fullHigh nominal ∧ r.remaining ≤ r.full ∧ -99 ≤ r.sub ∧ r.sub ≤ 99
    ∧ r.soc = socOf r.remaining r.full

/-- The gauge's records (R51). -/
abbrev State.GaugeLaw (s : State) : Prop :=
  (∀ r ∈ s.gauge.recA, r.Law s.setup.nominal) ∧ (∀ r ∈ s.gauge.recB, r.Law s.setup.nominal)

/-- The setup values' ranges (R173). -/
abbrev Setup.Law (t : Setup) : Prop :=
  240 ≤ t.period ∧ t.period ≤ 6000 ∧ t.minOn ≤ 32 ∧ t.debounce ≤ 7 ∧ t.onDelay ≤ 1000 ∧ 1000 ≤ t.nominal
    ∧ t.nominal ≤ 12000 ∧ 10 ≤ t.rideLimit ∧ t.rideLimit ≤ 600 ∧ 10 ≤ t.prepTimeout ∧ t.prepTimeout ≤ 300

/-- The drop thresholds' ranges (R121). -/
abbrev Thresholds.Law (t : Thresholds) : Prop :=
  13 ≤ t.f ∧ t.f ≤ 125 ∧ 8 ≤ t.n ∧ t.n ≤ 200 ∧ t.g ≤ 7 ∧ 250 ≤ t.i ∧ t.i ≤ 2047 ∧ 100 ≤ t.settle ∧ t.settle ≤ 1000
    ∧ 100 ≤ t.park ∧ t.park ≤ 5000 ∧ 100 ≤ t.alert ∧ t.alert ≤ 5000

/-- The display settings' ranges (R76, R80, R82). -/
abbrev Bright.Law (x : Bright) : Prop :=
  x.manual ≤ 1000 ∧ -200 ≤ x.offset ∧ x.offset ≤ 200 ∧ 100 ≤ x.battCeil ∧ x.battCeil ≤ 1000 ∧ x.bridgeCeil ≤ 500
    ∧ 2000 ≤ x.threshold ∧ x.threshold ≤ 120000 ∧ x.reserve ≤ 90 ∧ x.attack ≤ 7 ∧ x.release ≤ 7 ∧ 1 ≤ x.ramp
    ∧ x.ramp ≤ 1000

/-- Every setting is in its range (R23, R76, R80, R82, R121, R173). -/
abbrev State.SettingsLaw (s : State) : Prop :=
  s.setup.Law ∧ s.motion.thresholds.Law ∧ s.bright.Law ∧ 1 ≤ s.src.warn ∧ s.src.warn ≤ 50

/-- The pending list holds at most 8 records, the head is a slot of a sector, and the lost count saturates (R134,
R136). -/
abbrev State.HistoryLaw (s : State) : Prop :=
  s.hist.list.length ≤ 8 ∧ s.hist.headSlot < 32 ∧ s.hist.lost ≤ 65535

/-- The protect boundary is the one the boundary field gives (R137). -/
abbrev State.BoundaryLaw (s : State) : Prop := s.hist.boundary = boundaryOf s.hist.marks

/-- No history work waits for a free array (R131). -/
abbrev History.Quiet (h : History) : Prop :=
  h.ready = true → h.eraseDue = false ∧ h.list = [] ∧ h.note = none ∧ h.protect = none

/-- No page cause waits for its update (R185). -/
abbrev Pages.Quiet (p : Pages) : Prop :=
  p.part.cause = false ∧ p.power.cause = false ∧ p.display.cause = false ∧ p.motion.cause = false

/-- What every event leaves: no hand-over held back, no queued request whose unit is idle (R167), no work for a free
array (R131), no page cause (R185). -/
abbrev State.Quiet (s : State) : Prop :=
  s.src.holdups = [] ∧ (∀ e ∈ s.req.intake, s.servable e = false) ∧ s.hist.Quiet ∧ s.pages.Quiet

/-- BR_CHG is on exactly while DC or a bay feeds and the bridge monitor is not READY (R22). -/
abbrev State.BrChgLaw (s : State) : Prop :=
  s.src.brChg = ((decide (s.src.feeding = .dc) || s.src.feeding.bay.isSome) && decide (s.src.bridgeMonitor ≠ .ready))

/-- A READY or FEEDING bay whose pack monitor is TRIPPED has its depleted flag set (R9). -/
abbrev State.TripLaw (s : State) : Prop :=
  ∀ b ∈ [BayId.bayA, .bayB], (s.bay b).state = .ready ∨ (s.bay b).state = .feeding → (s.bay b).monitor = .tripped →
    (s.bay b).depleted = true

/-- A bay with its latch-open flag set is FEEDING (R38, R39). -/
abbrev State.LatchLaw (s : State) : Prop :=
  ∀ b ∈ [BayId.bayA, .bayB], (s.bay b).latchOpen = true → (s.bay b).state = .feeding

/-! ## What an event leaves, in the terms the statements use -/

/-- The offsets of the live pages (R150). -/
def pageByte (a : Nat) : Bool := decide (a < 0x0100) || (decide (0x0700 ≤ a) && decide (a < 0x0900))

/-- The bytes `bs` stand in the exchange memory from offset `a` on. -/
abbrev State.bytesAt (s : State) (a : Nat) (bs : List Byte) : Prop :=
  memReadBytes exchangeDefault s.link.memory a bs.length = bs

/-- The `n` bytes from offset `a` on read in `t` as in `s`. -/
abbrev State.SameBytes (s t : State) (a n : Nat) : Prop :=
  memReadBytes exchangeDefault t.link.memory a n = memReadBytes exchangeDefault s.link.memory a n

/-- Live page `p` from `u`, which holds the causes of an event, to the next state `t` (R184, R185): with no cause, or no
link, it stays; a cause during an update waits for its end; any other cause begins an update, which writes the open
count, the part time and every field, and leaves the close count to the update's end. -/
abbrev State.PageStep (u t : State) (p : PageId) : Prop :=
  if (u.page p).cause = true ∧ t.link.up = true then
    if (u.page p).busy = true then
      t.page p = { u.page p with cause := false, again := true } ∧ u.SameBytes t p.base (p.closeAt + 2 - p.base)
    else
      t.page p = { u.page p with cause := false, busy := true, again := false }
        ∧ t.bytesAt p.base (padTo (p.closeAt - p.base) 0
            (le 2 (nextCount (u.openCount p)) ++ leBytes 4 t.time.toNat ++ t.pageFields p))
        ∧ u.SameBytes t p.closeAt 2
  else t.page p = { u.page p with cause := false } ∧ u.SameBytes t p.base (p.closeAt + 2 - p.base)

/-- The four live pages step from `u` to `t`. -/
abbrev State.PagesStep (u t : State) : Prop :=
  u.PageStep t .part ∧ u.PageStep t .power ∧ u.PageStep t .display ∧ u.PageStep t .motion

/-- `t` is `u` once the page causes of `u` are served: nothing else differs, and no byte outside the live pages. -/
abbrev State.Settled (u t : State) : Prop :=
  t = { u with link := { u.link with memory := t.link.memory }, pages := t.pages }
    ∧ (∀ a, a < 0x2000 → pageByte a = false → t.xread a = u.xread a)
    ∧ u.PagesStep t

/-- `t` is `u` with entry `e` finished (R168, R191): the result bytes, DONE, ATTN DONE, and then the page causes of
`u`; nothing else differs, and no byte outside the result and the live pages. -/
abbrev State.Served (u t : State) (e : EntryId) (code : ResultCode) (flags : Nat) (data : List Byte) : Prop :=
  t = { u with
      req := { u.req with entries := u.req.entries.set e .done }
      link := { u.link with memory := t.link.memory, attn := u.link.attn ||| attnDone }
      pages := t.pages }
    ∧ t.bytesAt (entryBase e + 4) (resultBytes code flags data)
    ∧ (∀ a, a < 0x2000 → pageByte a = false → ¬(entryBase e + 4 ≤ a ∧ a < entryBase e + 64) → t.xread a = u.xread a)
    ∧ u.PagesStep t

/-- The part is powered, nothing is left to do, and its memories are in canonical form. -/
abbrev State.Live (s : State) : Prop := s.powered = true ∧ s.Quiet ∧ s.MemoryLaw

/-- The host may post entry `e`, whose body names `k` (R153, R165). -/
abbrev State.Postable (s : State) (k : Option ReqKind) (e : EntryId) : Prop :=
  s.hostServed = true ∧ s.Quiet ∧ s.MemoryLaw ∧ s.QueueLaw ∧ (s.entry e = .free ∨ s.entry e = .done)
    ∧ reqKindOf (s.kindCode e) = k

/-- The posting write of entry `e` whose body names `k`. -/
def ReqKind.posting (k : ReqKind) (e : EntryId) : Instr :=
  match k with
  | .setup => .setup e
  | .setClock => .setClock e
  | .noticeRoute => .noticeRoute e
  | .cancel => .cancel e
  | .setSourcePolicy => .setSourcePolicy e
  | .swapPrepare => .swapPrepare e
  | .swapAbort => .swapAbort e
  | .packSetCapacity => .packSetCapacity e
  | .setPackWarn => .setPackWarn e
  | .installCurve => .installCurve e
  | .setBrightness => .setBrightness e
  | .setCeilings => .setCeilings e
  | .setFilter => .setFilter e
  | .indicatorPulse => .indicatorPulse e
  | .setDropThresholds => .setDropThresholds e
  | .motionArm => .motionArm e
  | .historyAppendNote => .historyAppendNote e
  | .historyMap => .historyMap e
  | .historyProtect => .historyProtect e
  | .historyLocate => .historyLocate e

/-- Entry `e`, whose body names `k`, is taken at its posting: its unit is idle (R167). -/
abbrev State.Taken (s : State) (k : ReqKind) (e : EntryId) : Prop :=
  s.Postable (some k) e ∧ k.unit.all (fun u => !s.busy u) = true

/-- Source selection cannot bring an entry into EXHAUSTED here: the member is available, or it is a stranded bay, which
keeps the load where no source is found (R18, R39), or the power state is EXHAUSTED already (R17, R44). -/
abbrev State.Fed (s : State) : Prop :=
  s.src.memberAvailable = true ∨ s.src.power = .exhausted
    ∨ s.src.feeding.bay.any (fun b => decide ((s.bay b).state = .feeding ∧ (s.bay b).latchOpen = true)) = true

/-- A source other than bay `b` for selection to find (R15, R16). -/
abbrev State.otherSource (s : State) (b : BayId) : Prop :=
  s.src.dcPresent = true
    ∨ (((s.bay b.other).state = .ready ∨ (s.bay b.other).state = .feeding) ∧ (s.bay b.other).depleted = false
      ∧ (s.bay b.other).latchOpen = false)
    ∨ (s.src.bridgeMonitor ≠ .low ∧ s.src.cutoff = false ∧ s.src.exhLatch = false)

/-- The loss of bay `b`'s pack brings no entry into EXHAUSTED: the bay is not the member, or another source is there. -/
abbrev State.losable (s : State) (b : BayId) : Prop :=
  ((s.bay b).state ≠ .feeding ∧ s.src.feeding ≠ b.feed ∧ s.Fed)
    ∨ ((s.bay b).state = .feeding ∧ s.src.feeding = b.feed ∧ s.otherSource b)

/-- A preparation of bay `b` is pending (R31). -/
abbrev State.Prepares (s : State) (b : BayId) : Prop := s.src.prep.pending = true ∧ s.src.prep.bay = b

/-- The SWAP group that announces a prepared bay (R34). -/
abbrev swapAnnounced : Group where
  cls := .swap
  count := 5
  onMs := 200
  offMs := 200
  completed := 0
  phaseOn := false
  phaseStart := 0
  entry := none
  flags := 0

/-- No group that a SWAP group may displace or discard stands for a DISPLAY request (R97). -/
abbrev State.NoHostDisplaced (s : State) : Prop :=
  s.req.actDisplay = none ∨ ((∀ g ∈ s.drv.active, g.entry = none) ∧ ∀ g ∈ s.drv.waitSwap, g.entry = none)

/-- `t` is `u` with entries `x` and `e` finished in one event, `x` first (R177): nothing else differs, and no byte
outside the two results and the live pages. -/
abbrev State.ServedTwo (u t : State) (x e : EntryId) (codeX codeE : ResultCode) (dataX dataE : List Byte) : Prop :=
  t = { u with
      req := { u.req with entries := (u.req.entries.set x .done).set e .done }
      link := { u.link with memory := t.link.memory, attn := u.link.attn ||| attnDone }
      pages := t.pages }
    ∧ t.bytesAt (entryBase x + 4) (resultBytes codeX 0 dataX)
    ∧ t.bytesAt (entryBase e + 4) (resultBytes codeE 0 dataE)
    ∧ (∀ a, a < 0x2000 → pageByte a = false → ¬(entryBase x + 4 ≤ a ∧ a < entryBase x + 64) →
        ¬(entryBase e + 4 ≤ a ∧ a < entryBase e + 64) → t.xread a = u.xread a)
    ∧ u.PagesStep t

/-- The nine values a SETUP asks for, each in its range (R173). -/
abbrev State.askedSetup (s : State) (e : EntryId) : Setup where
  period := clamp 240 6000 (s.arg e 0 2)
  swapped := decide (s.arg e 2 1 = 1)
  inverted := decide (s.arg e 3 1 = 1)
  minOn := clamp 0 32 (s.arg e 4 1)
  debounce := clamp 0 7 (s.arg e 5 1)
  onDelay := clamp 0 1000 (s.arg e 6 2)
  nominal := clamp 1000 12000 (s.arg e 8 2)
  rideLimit := clamp 10 600 (s.arg e 10 2)
  prepTimeout := clamp 10 300 (s.arg e 12 2)

/-- The flags of the values of a SETUP that lie outside their ranges, bit n for argument n (R173, 12.2). -/
abbrev State.askedSetupFlags (s : State) (e : EntryId) : Nat :=
  flagBits [decide (s.arg e 0 2 < 240 ∨ 6000 < s.arg e 0 2), false, false, decide (32 < s.arg e 4 1),
    decide (7 < s.arg e 5 1), decide (1000 < s.arg e 6 2), decide (s.arg e 8 2 < 1000 ∨ 12000 < s.arg e 8 2),
    decide (s.arg e 10 2 < 10 ∨ 600 < s.arg e 10 2), decide (s.arg e 12 2 < 10 ∨ 300 < s.arg e 12 2)]

/-- Nine setup values as result data (R173, R190). -/
abbrev setupBytes (v : Setup) : List Byte :=
  le 2 v.period ++ [if v.swapped then 1 else 0] ++ [if v.inverted then 1 else 0] ++ le 1 v.minOn ++ le 1 v.debounce
    ++ le 2 v.onDelay ++ le 2 v.nominal ++ le 2 v.rideLimit ++ le 2 v.prepTimeout

/-- The driver `d` after an accepted SETUP of `v`, with the recomputed compare and level-zero mark (R89, R90, R94). -/
abbrev Driver.setUp (d : Driver) (v : Setup) (compare : Nat) (zero : Bool) (now : Time) : Driver :=
  let d0 := { d with
    configured := true, nextCompare := compare, levelZero := zero, nextPeriod := v.period, nextSwapped := v.swapped,
    nextInverted := v.inverted, inverted := if d.state = .framing then d.inverted else v.inverted }
  if d.sys ≠ .run ∨ zero = true then { d0 with state := .dark, activeCompare := 0 }
  else if d.state = .dark then
    (if v.onDelay = 0 then { d0 with
        state := .framing, delayStart := now, delayLen := 0, activeCompare := min compare v.period, period := v.period,
        swapped := v.swapped, inverted := v.inverted }
    else { d0 with state := .delay, delayStart := now, delayLen := v.onDelay })
  else d0

/-- The record of a SET_CLOCK of `new` (R175, R133): it carries the new clock, set, and the previous clock and flag. -/
abbrev State.clockRecord (s : State) (new : Nat) : HistRecord where
  kind := .clock
  clockUnset := false
  clock := BitVec.ofNat 32 new
  payload := leBytes 4 s.clock.seconds.toNat ++ [if s.clock.set then 1 else 0] ++ leBytes 4 new

/-- A source that could take the load of a prepared bay `b` (R32, step 3). -/
abbrev State.hasAlternative (s : State) (b : BayId) : Prop :=
  (((s.bay b.other).state = .ready ∨ (s.bay b.other).state = .feeding) ∧ (s.bay b.other).depleted = false
      ∧ (s.bay b.other).latchOpen = false)
    ∨ s.src.dcPresent = true
    ∨ (s.src.bridgeMonitor = .ready ∧ s.src.cutoff = false ∧ s.src.exhLatch = false)

/-- Bay `b` prepared (R34): no charge select, the prepared timer running, the prepared start now. -/
abbrev State.preparedBay (s : State) (b : BayId) : Bay :=
  { s.bay b with
    state := .swapPrepared, prior := none, priorRel := none, chargeSel := false,
    prepTimer := some { start := s.time, len := 1000 * s.setup.prepTimeout }, prepStart := s.time }

/-- The record of bay `b` after a set capacity (R61): full clamped, remaining cut to it, learn flag clear, SoC
recomputed. -/
abbrev GaugeRec.setTo (r : GaugeRec) (full : Nat) : GaugeRec :=
  { r with full := full, remaining := min r.remaining full, learn := false, soc := min r.remaining full * 100 / full }

/-- Charge select of bay `b` after charge selection (R20): off without DC, kept while a bay has it, else on for the READY
bay of lowest SoC below 100, ties to A. -/
abbrev State.chargeAfter (s : State) (b : BayId) : Bool :=
  if s.src.dcPresent = false then false
  else if s.src.bayA.chargeSel = true ∨ s.src.bayB.chargeSel = true then (s.bay b).chargeSel
  else decide ((s.bay b).state = .ready ∧ s.soc b < 100
    ∧ ((s.bay b.other).state = .ready → s.soc b < s.soc b.other ∨ (b = .bayA ∧ s.soc b = s.soc b.other)))

/-- The bay is an eligible pack (R15). -/
abbrev Bay.isEligible (x : Bay) : Prop :=
  (x.state = .ready ∨ x.state = .feeding) ∧ x.depleted = false ∧ x.latchOpen = false

/-- The held time of a bay whose return stops it (R1, R26). -/
abbrev Bay.heldUntil (x : Bay) (now : Time) : Nat :=
  match x.heldSince with
  | none => x.heldMs
  | some c => min 65535 (x.heldMs + (now - c).toNat)

/-- What a timer has left, or 0 with the timer stopped (R186). -/
abbrev timeLeft (x : Option Timer) (now : Time) : Nat :=
  match x with
  | none => 0
  | some y => y.len - (now - y.start).toNat

/-- The bytes of a field that may hold no value: its code, or 0xFF (12.6). -/
abbrev codeOrNone (x : Option Nat) : List Byte := le 1 (x.getD 0xFF)

/-- The fields of bay `b`'s block on the power page, whose block starts at offset `off` (R186, 12.5). -/
abbrev State.bayEntries (s : State) (off : Nat) (b : BayId) : List (Nat × List Byte) :=
  let x := s.bay b
  let r := s.gaugeRec b
  [(off, le 1 x.state.code), (off + 1, codeOrNone (x.prior.map BayState.code)),
    (off + 2, codeOrNone (x.priorRel.map BayState.code)),
    (off + 3, le 1 (flagBits [x.present.acc, x.latch.acc, x.depleted, x.latchOpen, x.chargeSel,
      decide (x.monitor = .tripped), r.any GaugeRec.learn, r.isSome])),
    (off + 4, le 2 x.mv), (off + 6, leInt 2 (x.code.toInt * 4)), (off + 8, le 2 (x.heldUntil s.time)),
    (off + 10, codeOrNone (x.outcome.map HoldOutcome.code)), (off + 11, le 1 ((r.map GaugeRec.soc).getD 0)),
    (off + 12, le 4 (timeLeft x.prepTimer s.time)), (off + 16, le 2 ((r.map GaugeRec.remaining).getD 0 / 3600)),
    (off + 18, le 2 ((r.map GaugeRec.full).getD 0 / 3600)), (off + 20, le 2 ((r.map GaugeRec.satCount).getD 0)),
    (off + 22, le 2 ((r.map GaugeRec.residual).getD 0)), (off + 24, List.replicate 8 0)]

/-- The average drain the power page shows (R64). -/
abbrev State.meanDrain (s : State) : Int :=
  if s.gauge.window = [] then 0 else s.gauge.window.sum / s.gauge.window.length

/-- The minutes to empty the power page shows (R64). -/
abbrev State.minutesLeft (s : State) : Nat :=
  let charge (x : Bay) (r : Option GaugeRec) : Nat := if x.isEligible then (r.map GaugeRec.remaining).getD 0 else 0
  if s.gauge.window = [] ∨ (s.src.feeding ≠ .bayA ∧ s.src.feeding ≠ .bayB) ∨ s.meanDrain ≤ 50 then 65535
  else (charge s.src.bayA s.gauge.recA + charge s.src.bayB s.gauge.recB) / (s.meanDrain.toNat * 60)

/-- The HOST group of an INDICATOR_PULSE in entry `e`, its figures clamped (R99), in the phase it is given. -/
abbrev State.hostGroup (s : State) (e : EntryId) (phaseOn : Bool) (since : Time) : Group where
  cls := .host
  count := max 1 (min 255 (s.arg e 0 1))
  onMs := max 10 (min 2000 (s.arg e 2 2))
  offMs := max 10 (min 2000 (s.arg e 4 2))
  completed := 0
  phaseOn := phaseOn
  phaseStart := since
  entry := some e
  flags := flagBits [decide (s.arg e 0 1 < 1), decide (s.arg e 2 2 < 10 ∨ 2000 < s.arg e 2 2),
    decide (s.arg e 4 2 < 10 ∨ 2000 < s.arg e 4 2)]

/-- The NOTE record of entry `e` (R143): its length, its bytes, the clock and its set flag now. -/
abbrev State.noteRecord (s : State) (e : EntryId) : HistRecord where
  kind := .note
  clockUnset := !s.clock.set
  clock := s.clock.seconds
  payload := memReadBytes exchangeDefault s.link.memory (entryBase e + 10) (s.arg e 0 2)

/-- The condition of R72 that point `p` breaks, given its predecessor, the first in the table's order. -/
def pointVerdict (prev : Option (Nat × Nat)) (p : Nat × Nat) : Option CurveReason :=
  if 131071 < p.1 then some .luxRange
  else if (match prev with | none => false | some q => decide (p.1 ≤ q.1)) then some .luxOrder
  else if 1000 < p.2 then some .levelRange
  else if (match prev with | none => false | some q => decide (p.2 < q.2)) then some .levelOrder
  else none

/-- Point `i` (from 0) of the staging area: lux in 4 bytes, level in 2 (12.4). -/
def State.stagedPoint (s : State) (i : Nat) : Nat × Nat := (s.xreadLe (0x0904 + 8 * i) 4, s.xreadLe (0x0908 + 8 * i) 2)

/-- What point `i` of the staging area breaks (R72). -/
def State.pointBroken (s : State) (i : Nat) : Option CurveReason :=
  pointVerdict (if i = 0 then none else some (s.stagedPoint (i - 1))) (s.stagedPoint i)

/-- The verdict of R72 on the staging area: COUNT with index 0, the first point that breaks a condition, or the curve. -/
def State.curveVerdict (s : State) : Except (CurveReason × Nat) (List (Nat × Nat)) :=
  let n := s.xreadLe 0x0900 2
  if n < 2 ∨ 16 < n then .error (.count, 0)
  else match (List.range n).find? (fun i => (s.pointBroken i).isSome) with
    | some i => .error ((s.pointBroken i).getD .count, i + 1)
    | none => .ok ((List.range n).map s.stagedPoint)

/-- The arbiter after a group has ended (R98): the first waiting group, SWAP, then DROP, then HOST, starts now. -/
abbrev Driver.waitingStarted (d : Driver) (now : Time) : Driver :=
  match d.waitSwap with
  | some g => { d with active := some { g with completed := 0, phaseOn := true, phaseStart := now }, waitSwap := none }
  | none => match d.waitDrop with
    | some g => { d with active := some { g with completed := 0, phaseOn := true, phaseStart := now }, waitDrop := none }
    | none => match d.waitHost with
      | some g => { d with active := some { g with completed := 0, phaseOn := true, phaseStart := now }, waitHost := none }
      | none => { d with active := none }

/-- A record handed over joins the list and starts nothing: the array is busy, the unit is not in FAULT, and the list
has room for `n` more (R131, R136). -/
abbrev State.Room (s : State) (n : Nat) : Prop :=
  s.hist.fault = none ∧ s.hist.list.length + n ≤ 8 ∧ (s.hist.op ≠ .idle ∨ s.hist.scanning = true)

/-- An input whose raw level has held against the accepted one for the window of 2^n ms (R2). -/
abbrev Input.Held (i : Input) (now : Time) (n : Nat) : Prop :=
  i.raw ≠ i.acc ∧ i.cand.any (fun c => decide (2 ^ n ≤ (now - c).toNat)) = true

/-- An input whose raw level is accepted (R2). -/
abbrev Input.taken (i : Input) : Input := { i with acc := i.raw, cand := none }

/-- A raw level reaches an input (R2): a candidate starts, runs on, or is discarded. -/
abbrev Input.seen (i : Input) (level : Bool) (now : Time) : Input :=
  { i with raw := level, cand := if level = i.acc then none else some (i.cand.getD now) }

/-- Bay `b`'s latch accepted at its raw level: the latch note of its pending preparation follows it (R2, R35). -/
abbrev State.latchTaken (s : State) (b : BayId) : State :=
  let u := s.setBay b { s.bay b with latch := (s.bay b).latch.taken }
  if s.Prepares b then { u with src.prep.latchNote := !(s.bay b).latch.raw } else u

/-- The state a HELD bay returns to (R26). -/
abbrev Bay.heldDest (x : Bay) : BayState :=
  match x.prior with
  | some .seated => .seated
  | some .qualifying => .seated
  | some .fault => .fault
  | some .swapPrepared => .swapPrepared
  | some .releasing => if x.priorRel = some .swapPrepared then .swapPrepared else .ready
  | _ => .ready

/-- Bay `b` after it has entered EMPTY (R6): its flags, window, timer and monitor are cleared and its pack forgotten. -/
abbrev State.emptied (s : State) (b : BayId) : State :=
  (((s.setBay b { s.bay b with
    present := (s.bay b).present.taken, state := .empty, prior := none, priorRel := none, strandedAtLoss := false,
    chargeSel := false, depleted := false, latchOpen := false, clean := false, prepTimer := none,
    monitor := .released, tripRun := 0, releaseRun := 0 }).setGaugeRec b none).setKept b none).touch .power

/-- The record of a removal of bay `b` outside a hold, with the power state after it (R6, R48). -/
abbrev State.removalRecord (s : State) (b : BayId) (power : PowerState) : HistRecord :=
  if (s.bay b).state = .swapPrepared ∨ ((s.bay b).state = .releasing ∧ (s.bay b).prior = some .swapPrepared) then
    { kind := .swap, clockUnset := !s.clock.set, clock := s.clock.seconds,
      payload := le 1 b.code ++ le 2 (s.remainingMah b) ++ le 2 (s.fullMah b)
        ++ leBytes 4 (s.time - (s.bay b).prepStart).toNat ++ le 1 power.code ++ [0] }
  else
    { kind := .unplanned, clockUnset := !s.clock.set, clock := s.clock.seconds,
      payload := le 1 b.code ++ le 1 (s.bay b).state.code
        ++ [if (s.bay b).state = .feeding ∧ (s.bay b).latchOpen = true then 1 else 0] ++ le 2 (s.remainingMah b)
        ++ le 1 power.code ++ [0] }

/-- The record of an entry into EXHAUSTED (R44, R48). -/
abbrev State.holdupRecord (s : State) (cause : HoldupCause) (left : PowerState) (elapsed remA remB : Nat) : HistRecord where
  kind := .holdup
  clockUnset := !s.clock.set
  clock := s.clock.seconds
  payload := le 1 cause.code ++ le 1 left.code ++ le 4 elapsed ++ le 2 s.src.bridgeMv ++ le 2 remA ++ le 2 remB
    ++ le 1 s.src.sysState.code

/-- The bay may be re-engaged in an emergency (R46). -/
abbrev Bay.mayReengage (x : Bay) : Prop :=
  x.state = .swapPrepared ∧ x.present.acc = true ∧ x.latch.acc = true ∧ x.monitor = .released

/-- The record of a pack that qualifies at `mv` (R55): its full is the nominal capacity or a kept one within the
bounds, its remaining the open-circuit estimate. -/
abbrev State.estimate (s : State) (b : BayId) (mv : Nat) : GaugeRec :=
  let full := match s.kept b with
    | none => s.setup.nominal * 3600
    | some k => max (s.setup.nominal * 1800) (min (s.setup.nominal * 3960) k)
  let remaining := full * interpolate Config.openCircuit mv / 100
  { remaining := remaining, full := full, sub := 0, drawn := 0, learn := false, soc := remaining * 100 / full,
    armed := true, satCount := 0, residual := 0 }

/-- What a link reset and an assertion of PLTRST# leave of the parts the two resets share (R160, R172, R101, R147). -/
abbrev State.linkCleared (s : State) (cause : ResetCause) : State :=
  { s with
    req := {
      entries := Vector.replicate 16 .free, intake := [], actPower := none, actDisplay := none,
      actMotion := none, actHistory := none }
    notices := Vector.replicate 32 NoticeSlot.cleared
    routes := defaultRoutes
    link.attn := 0
    link.lastRefused := 0xFFFF
    link.resetCause := cause
    src.prep.request := none
    hist.mapped := none
    hist.note := match s.hist.note with
      | none => none
      | some n => if n.started then some { n with entry := none } else none
    hist.protect := match s.hist.protect with
      | none => none
      | some p => if p.started then some { p with entry := none } else none
    drv := match s.drv.waitHost with
      | some _ => { s.drv with waitHost := none }
      | none => match s.drv.active with
        | none => s.drv
        | some g => if g.cls = .host then s.drv.waitingStarted s.time else s.drv }

/-- The even offset of a word whose bytes the host owns, other than a state word (R150, R151). -/
abbrev State.HostOwned (s : State) (off : Nat) : Prop :=
  off % 2 = 0 ∧ off < 0x2000
    ∧ ((0x0900 ≤ off ∧ off < 0x0A00) ∨ 0x0C00 ≤ off
      ∨ (0x0100 ≤ off ∧ off < 0x0500 ∧ off % 64 ≠ 0
        ∧ (s.entry (Fin.ofNat 16 ((off - 0x0100) / 64)) = .free ∨ s.entry (Fin.ofNat 16 ((off - 0x0100) / 64)) = .done)))

/-- A full write of `w` to a state word that R153 accepts in this entry state. -/
abbrev legalPair (x : EntryState) (w : Half) : Prop :=
  (x = .free ∧ w = 0x5050) ∨ (x = .done ∧ (w = 0x5050 ∨ w = 0x0F0F)) ∨ (x = .posted ∧ w = 0x7070)

/-- A host write at an even offset, with a byte enabled, that is refused (R150 to R153, R155). -/
abbrev State.RefusedWrite (s : State) (off : Nat) (w : Half) (en : BitVec 2) : Prop :=
  off % 2 = 0 ∧ en ≠ 0
    ∧ (off < 0x0100 ∨ (0x0700 ≤ off ∧ off < 0x0900) ∨ (0x0A00 ≤ off ∧ off < 0x0C00)
      ∨ (0x0500 ≤ off ∧ off < 0x0700 ∧ ¬(off % 16 = 2 ∧ en = 2))
      ∨ (0x0100 ≤ off ∧ off < 0x0500 ∧ off % 64 = 0
        ∧ (en ≠ 3 ∨ ¬legalPair (s.entry (Fin.ofNat 16 ((off - 0x0100) / 64))) w))
      ∨ (0x0100 ≤ off ∧ off < 0x0500 ∧ off % 64 ≠ 0
        ∧ (s.entry (Fin.ofNat 16 ((off - 0x0100) / 64)) = .posted
          ∨ s.entry (Fin.ofNat 16 ((off - 0x0100) / 64)) = .active)))

/-- The slot number, the restart's slots, the counters and the last good sample after a slot whose sample is `v` (R104,
R105). -/
abbrev Motion.afterSlot (m : Motion) (v : Option Sample) (now : Time) : Motion :=
  { m with
    slot := m.slot + 1
    restartLeft := m.restartLeft - 1
    goodRun := if v.isSome then min 65535 (m.goodRun + 1) else 0
    missingRun := if v.isSome then 0 else min 65535 (m.missingRun + 1)
    goodTotal := if v.isSome then min 4294967295 (m.goodTotal + 1) else m.goodTotal
    missingTotal := if v.isSome then m.missingTotal else min 4294967295 (m.missingTotal + 1)
    last := v.getD m.last
    lastTime := if v.isSome then now else m.lastTime }

/-- The candidate run after the next slot's sample `v` in WATCHING (R107). -/
abbrev Motion.runAfter (m : Motion) (v : Option Sample) : Option Candidate :=
  if v.any (fun x => decide (x.square < m.thresholds.f * m.thresholds.f)) = true then
    match m.candidate with
    | none => some { first := m.slot + 1, length := 1, gap := 0 }
    | some k => some { k with length := k.length + 1, gap := 0 }
  else
    match m.candidate with
    | none => none
    | some k => if m.thresholds.g < k.gap + 1 then none else some { k with length := k.length + 1, gap := k.gap + 1 }

/-- The fall whose peak takes the sample `v` if it is larger (R110, R114). -/
abbrev Fall.peakOver (f : Fall) (v : Option Sample) : Fall :=
  { f with
    peak := max f.peak ((v.map Sample.square).getD 0)
    peakAt := if f.peak < (v.map Sample.square).getD 0 then v.getD f.peakAt else f.peakAt }

/-- A slot program runs (R129). -/
def History.runsProgram (h : History) : Bool :=
  match h.op with
  | .program _ _ _ _ => true
  | _ => false

/-- A sector erase runs (R130). -/
def History.runsErase (h : History) : Bool :=
  match h.op with
  | .erase _ _ _ => true
  | _ => false

/-- The start of the erase that runs. -/
def History.eraseStart (h : History) : Time :=
  match h.op with
  | .erase _ _ start => start
  | _ => 0

/-- A boundary step runs (R137). -/
def History.runsStep (h : History) : Bool :=
  match h.op with
  | .boundary _ _ _ => true
  | _ => false

/-- No fault, no scan, no erase called for, and no boundary step waiting. -/
abbrev History.Clear (h : History) : Prop :=
  h.fault = none ∧ h.scanning = false ∧ h.eraseDue = false ∧ h.protect = none

/-- The marks after a step toward boundary `b` that programmed the marks `m`, or all of them (R137). -/
abbrev History.marksAfter (h : History) (b : Nat) (m : Option (BitVec 55)) : BitVec 55 :=
  h.marks ||| (BitVec.ofNat 55 (2 ^ (63 - b) - 1) &&& m.getD (BitVec.allOnes 55))

/-- The head that the start-up scan sets (R139, step 5): with no VALID record below the boundary slot 0 of sector 0; else,
in the sector of the one of highest sequence, the first ERASED slot after it, or slot 0 of the next sector. -/
abbrev State.headFound (s : State) (sector slot : Nat) : Prop :=
  ((∀ x ∈ s.hist.valid, boundaryOf s.hist.marks ≤ x.1) ∧ sector = 0 ∧ slot = 0)
    ∨ ∃ x ∈ s.hist.valid, x.1 < boundaryOf s.hist.marks
      ∧ (∀ y ∈ s.hist.valid, y.1 < boundaryOf s.hist.marks → y = x ∨ slotSeq y.2.2 < slotSeq x.2.2)
      ∧ ((sector = x.1 ∧ x.2.1 < slot ∧ slot < 32 ∧ slotErased (s.hist.slotBytes sector slot) = true
          ∧ ∀ j, j < slot → x.2.1 < j → slotErased (s.hist.slotBytes sector j) = false)
        ∨ (sector = (x.1 + 1) % boundaryOf s.hist.marks ∧ slot = 0
          ∧ ∀ j, j < 32 → x.2.1 < j → slotErased (s.hist.slotBytes x.1 j) = false))

/-- What the RESTART record gives of the scan's findings (R133, R140). -/
abbrev State.restartFound (s : State) (sector slot : Nat) (erases : Bool) : HistRecord :=
  HistRecord.restart (le 1 (boundaryOf s.hist.marks) ++ le 2 s.hist.valid.length ++ le 2 s.hist.bad.length
    ++ le 4 (highestSeq s.hist.valid) ++ le 1 sector ++ le 1 slot ++ [if erases then 1 else 0])

/-- The History Unit of `t` is in FAULT for this cause, as it leaves `s`: every record of the list is counted lost, and
no work is left (R141). -/
abbrev State.FaultedTo (s t : State) (cause : HistoryCause) : Prop :=
  t.hist.fault = some cause ∧ t.hist.list = [] ∧ t.hist.op = .idle ∧ t.hist.note = none ∧ t.hist.protect = none
    ∧ t.hist.eraseDue = false ∧ t.hist.lost = min 65535 (s.hist.lost + s.hist.list.length)
    ∧ t.req.actHistory = none ∧ (∀ e ∈ s.req.actHistory, t.entry e = .done) ∧ (t.notices[21]).fresh = true

/-- A program or erase that runs stands in a sector below `b`, and a program writes a slot of it. -/
def History.worksBelow (h : History) (b : Nat) : Bool :=
  match h.op with
  | .program sector slot _ image => decide (sector < b ∧ slot < 32 ∧ image.length = 64)
  | .erase sector _ _ => decide (sector < b)
  | _ => true

/-- The array's work stays below the protect boundary (R137): the boundary is that of the field, a program and an erase
stand in a sector below it, and so does the head unless the unit is in FAULT or a boundary step runs. -/
abbrev State.ProtectLaw (s : State) : Prop :=
  s.BoundaryLaw ∧ s.hist.headSlot < 32
    ∧ (s.hist.fault = none → s.hist.runsStep = false → s.hist.headSector < s.hist.boundary)
    ∧ s.hist.worksBelow s.hist.boundary = true

end Sys2Proof.Machine

namespace Sys2Proof

/-- The voltage a round gives for bay `b`, in mV. -/
def Round.mvOf (r : Round) : BayId → Nat
  | .bayA => r.mvA
  | .bayB => r.mvB

/-- The current code a round gives for bay `b`. -/
def Round.codeOf (r : Round) : BayId → BitVec 12
  | .bayA => r.codeA
  | .bayB => r.codeB

end Sys2Proof
end

