-- ==== Sys2Proof/WellFormed.lean ====
section
/-! DEFINITION. Which commands are well formed: operands that the board, the bus and the cells can give. -/

namespace Sys2Proof

/-- A measured voltage fits a 16-bit field (R190). -/
def mvOk (v : Nat) : Bool := decide (v < 65536)

/-- A power round's voltages (1.4). -/
def Round.ok (r : Round) : Bool := mvOk r.mvA && mvOk r.mvB && mvOk r.mvBridge && mvOk r.mvDc

/-- An access enables a byte (R148): with none it has no effect. -/
def enabled (en : BitVec 2) : Bool := decide (en ≠ 0)

/-- What an exchange memory write may be for HOST_WRITE: an even offset, a byte enabled, and not a consume, which is a
row of its own whatever the state (R148, R155). -/
def hostWriteOk (off : Nat) (en : BitVec 2) : Bool :=
  enabled en && decide (off % 2 = 0)
    && !(decide (0x0500 ≤ off) && decide (off < 0x0700) && decide (off % 16 = 2) && decide (en = 2))

/-- A register write that changes nothing (R156): no write to ATTN_CLR with a flag bit, to ATTN_MASK or to LINK_CTRL
by the low byte. -/
def registerWriteOk (off : Nat) (w : Half) (en : BitVec 2) : Bool :=
  enabled en && decide (off % 2 = 0)
    && !(en.getLsbD 0 && (decide (off = 6) || decide (off = 8) || (decide (off = 4) && decide (w.setWidth 5 ≠ (0 : BitVec 5)))))

/-- What the cells read back: all as meant, or exactly `n` bytes. -/
def cellsOk (n : Nat) (cells : Option (List Byte)) : Bool :=
  match cells with
  | none => true
  | some bs => decide (bs.length = n)

/-- A command whose operands are ones its row allows. -/
def Instr.wellFormed (i : Instr) : Bool :=
  match i with
  | .coldStart => true
  | .linkStart => true
  | .startUpScanEnd => true
  | .pltrstAssertion => true
  | .pltrstDeassertion => true
  | .rawContactChange _ _ => true
  | .presentAccepted _ => true
  | .latchAccepted _ => true
  | .chgDoneAccepted => true
  | .sysrunChange => true
  | .powerRound r => r.ok
  | .tteSecondClose => true
  | .qualificationWindowEnd _ => true
  | .preparationSwitchOver => true
  | .preparedTimerExpiry _ => true
  | .rideThroughExpiry => true
  | .lightSample _ => true
  | .rampStep => true
  | .delayExpiry => true
  | .frameBoundary => true
  | .onTimeEnd => true
  | .offTimeEnd => true
  | .sampleSlot _ => true
  | .linkRestart => true
  | .settleEnd => true
  | .interruptionListArrival => true
  | .parkHoldExpiry => true
  | .programCompletion cells => cellsOk 64 cells
  | .eraseCompletion cells => cellsOk 2048 cells
  | .eraseTimeout cells => cellsOk 2048 (some cells)
  | .boundaryStepCompletion _ => true
  | .serviceClockAdvance => true
  | .periodicPageUpdate p => decide (p ≠ .part)
  | .pageUpdateEnd _ => true
  | .hostWrite off _ en => hostWriteOk off.toNat en
  | .withdraw _ => true
  | .giveBack _ => true
  | .consume _ _ => true
  | .attnRead en => enabled en
  | .attnClr _ en => enabled en
  | .attnMask _ en => enabled en
  | .arm _ => true
  | .linkReset _ => true
  | .registerWriteNoEffect off w en => registerWriteOk off.toNat w en
  | .badKind _ => true
  | .setup _ => true
  | .setClock _ => true
  | .noticeRoute _ => true
  | .cancel _ => true
  | .setSourcePolicy _ => true
  | .swapPrepare _ => true
  | .swapAbort _ => true
  | .packSetCapacity _ => true
  | .setPackWarn _ => true
  | .installCurve _ => true
  | .setBrightness _ => true
  | .setCeilings _ => true
  | .setFilter _ => true
  | .indicatorPulse _ => true
  | .setDropThresholds _ => true
  | .motionArm _ => true
  | .historyAppendNote _ => true
  | .historyMap _ => true
  | .historyProtect _ => true
  | .historyLocate _ => true
  | .alwaysOnSupplyLoss cells _ => decide (cells.length ≤ 2048)
  | .sysrunLineChange _ => true

end Sys2Proof
end

