-- ==== Sys2Proof/Certificates/Slice0/Obligations.lean ====
section
/-! DEFINITION. The statements about the CZ-410. Each names the rules it formalises; `Quiet`, `Settled`, `Served` and the
other words for states are those of Sys2Proof/Safety.lean. -/

open Sys2Proof Sys2Proof.Machine

/-! ## The block as a whole -/

/-- A step with a command at the front of the queue is `exec` of that command on the state with the queue's rest. -/
def Obligations.StepRunsFrontCommand : Prop :=
  ∀ (c : Instr) (rest : List Instr) (s : State),
    s.pending = c :: rest → step s = exec c { s with pending := rest }

/-- Every command of the table answers a next state in every state, and leaves the queue as it is: no rule of the spec
stops the part. -/
def Obligations.EveryCommandAnswersNext : Prop :=
  ∀ (c : Instr) (s : State),
    ∃ t, exec c s = .next t ∧ t.pending = s.pending

/-- THE MODEL'S CHOICE (assumption 2): with no command waiting the part's own timers bring what is due, or one ms of
part time passes; with the supply down nothing happens. -/
def Obligations.EmptyQueueLetsTimePass : Prop :=
  ∀ (s : State),
    s.pending = [] →
    (s.powered = false → step s = .next s)
      ∧ (s.powered = true → s.dueCommands = [] → step s = .next { s with time := s.time + 1 })
      ∧ (s.powered = true → s.dueCommands ≠ [] → step s = .next { s with pending := s.dueCommands })

/-! ## Cold start, link start, resets, supply -/

/-- COLD_START gives every block the cold-start values of the tables of R29, R49, R65, R66, R88, R101, R103, R121,
R126, R147, R163, R164, R173, R175, R179 and R182, and keeps the array and the boundary field. That a COLD_START with
the supply up keeps the array and the boundary field, with an array operation cut there too, is the model's choice
(assumption 16). -/
def Obligations.ColdStartValues : Prop :=
  ∀ (s : State),
    ∃ t, exec .coldStart s = .next t ∧
      ((t.pending = s.pending ∧ t.powered = true ∧ t.time = 0 ∧ t.clock.seconds = 0 ∧ t.clock.set = false)
      ∧ (t.setup.period = 600 ∧ t.setup.swapped = false ∧ t.setup.inverted = false ∧ t.setup.minOn = 2
        ∧ t.setup.debounce = 3 ∧ t.setup.onDelay = 200 ∧ t.setup.nominal = 6000 ∧ t.setup.rideLimit = 120
        ∧ t.setup.prepTimeout = 60)
      ∧ (∀ b ∈ [BayId.bayA, BayId.bayB], (t.bay b).state = .empty ∧ (t.bay b).present.acc = false
          ∧ (t.bay b).latch.acc = false ∧ (t.bay b).monitor = .released ∧ (t.bay b).tripRun = 0
          ∧ (t.bay b).releaseRun = 0 ∧ (t.bay b).depleted = false ∧ (t.bay b).latchOpen = false
          ∧ (t.bay b).chargeSel = false ∧ (t.bay b).heldMs = 0 ∧ (t.bay b).heldSince = none
          ∧ (t.bay b).outcome = none ∧ (t.bay b).prepTimer = none ∧ t.gaugeRec b = none ∧ t.kept b = none)
      ∧ (t.src.bridgeMonitor = .low ∧ t.src.bridgeBelow = 0 ∧ t.src.bridgeNotBelow = 0 ∧ t.src.bridgeHigh = 0
        ∧ t.src.cutoff = false ∧ t.src.brChg = false ∧ t.src.dcPresent = false ∧ t.src.dcRun = 0
        ∧ t.src.feeding = .empty ∧ t.src.power = .exhausted ∧ t.src.exhLatch = false ∧ t.src.policy = .drainLower
        ∧ t.src.warn = 10 ∧ t.src.hold = false ∧ t.src.deferred = false ∧ t.src.interrupted = []
        ∧ t.src.prep.pending = false ∧ t.src.prep.latchNote = false ∧ t.src.prep.request = none
        ∧ t.src.rideTimer = none ∧ t.src.chgDone.acc = false ∧ t.src.sysState = .off)
      ∧ (t.gauge.window = [] ∧ t.gauge.secCount = 0 ∧ t.shutdownRequested = true)
      ∧ (t.bright.gain = .low ∧ t.bright.discard = false ∧ t.bright.saturated = false ∧ t.bright.lastCode = 0
        ∧ t.bright.rawLux = 0 ∧ t.bright.filtered = 0 ∧ t.bright.filterValid = false
        ∧ t.bright.curve = [(0, 40), (200, 120), (2000, 300), (10000, 550), (20000, 700), (60000, 900), (100000, 1000)]
        ∧ t.bright.origin = .factory ∧ t.bright.staged = none ∧ t.bright.mode = .auto ∧ t.bright.manual = 500
        ∧ t.bright.offset = 0 ∧ t.bright.battCeil = 700 ∧ t.bright.bridgeCeil = 200 ∧ t.bright.threshold = 20000
        ∧ t.bright.reserve = 30 ∧ t.bright.attack = 1 ∧ t.bright.release = 4 ∧ t.bright.ramp = 20
        ∧ t.bright.allowance = false ∧ t.bright.curveLevel = 40 ∧ t.bright.request = 40 ∧ t.bright.ceiling = 0
        ∧ t.bright.target = 0 ∧ t.bright.current = 0 ∧ t.bright.compare = 0)
      ∧ (t.drv.state = .dark ∧ t.drv.configured = false ∧ t.drv.sys = .off ∧ t.drv.levelZero = true
        ∧ t.drv.nextCompare = 0 ∧ t.drv.activeCompare = 0 ∧ t.drv.period = 600 ∧ t.drv.swapped = false
        ∧ t.drv.inverted = false ∧ t.drv.nextPeriod = 600 ∧ t.drv.nextSwapped = false ∧ t.drv.nextInverted = false
        ∧ t.drv.delayStart = 0 ∧ t.drv.delayLen = 200 ∧ t.drv.active = none ∧ t.drv.waitSwap = none
        ∧ t.drv.waitDrop = none ∧ t.drv.waitHost = none ∧ t.ind = false ∧ t.blEn = false ∧ t.offLevel = false)
      ∧ (t.motion.state = .watching
        ∧ t.motion.thresholds = { f := 44, n := 24, g := 2, i := 500, settle := 250, park := 500, alert := 500 }
        ∧ t.motion.slot = 0 ∧ t.motion.candidate = none ∧ t.motion.fall = none ∧ t.motion.nextDrop = 1
        ∧ t.motion.missingRun = 0 ∧ t.motion.goodRun = 0 ∧ t.motion.goodTotal = 0 ∧ t.motion.missingTotal = 0
        ∧ t.motion.last = { x := 0, y := 0, z := 0 } ∧ t.motion.lastTime = 0 ∧ t.motion.restartCount = 0
        ∧ t.motion.faultStart = 0 ∧ t.motion.parkTimer = none ∧ t.motion.disarmPending = false
        ∧ t.motion.restartLeft = 4 ∧ t.parkAsserted = false)
      ∧ (t.hist.array = s.hist.array ∧ t.hist.marks = s.hist.marks ∧ t.hist.lost = 0 ∧ t.hist.mapped = none
        ∧ t.hist.fault = none ∧ t.hist.list.map (fun r => r.kind) = [.restart] ∧ t.hist.scanning = true)
      ∧ ((∀ e : EntryId, t.entry e = .free) ∧ t.req.intake = []
        ∧ (∀ x ∈ [UnitId.power, .display, .motion, .history], t.active x = none))
      ∧ ((∀ k : Fin 32, t.notices[k] = { fresh := false, raised := 0, saturated := false, time := 0, payload := [0, 0, 0, 0, 0, 0, 0, 0] })
        ∧ (∀ k : Fin 23, t.routes[k] = { notify := true, group := if 13 ≤ k.val ∧ k.val ≤ 19 then .groupB else .groupA }))
      ∧ (t.link.up = false ∧ t.link.memory = [] ∧ t.link.mask = 0 ∧ t.link.arm = false ∧ t.link.setupTaken = false
        ∧ t.link.lastRefused = 0xFFFF))

/-- LINK_START (R149): the exchange memory is zeroed, every entry is FREE, each notice slot holds its kind alone, the
registers take their cold-start values with RESTART set, no sector is mapped, and the part page is filled in; until
then every read gives 0xFFFF. A link that has started does not start again. -/
def Obligations.LinkStartFillsExchange : Prop :=
  (∀ (s : State),
    s.Live ∧ s.link.up = false →
    ∃ t, exec .linkStart s = .next t ∧
      (State.Settled ({ s with
        link := {
          up := true, platformLow := s.link.platformLow, memory := [], attn := attnRestart, mask := 0,
          arm := false, setupTaken := false, lastRefused := 0xFFFF, resetCause := .cold, readData := 0 }
        req.entries := Vector.replicate 16 .free
        notices := Vector.replicate 32 NoticeSlot.cleared
        routes := defaultRoutes
        hist.mapped := none }.touch .part) t
      ∧ (∀ k : Fin 32, t.slotBytes k = (if k.val < 23 then BitVec.ofNat 8 k.val else 0xFF) :: List.replicate 15 0)
      ∧ s.hostRead 0 3 = 0xFFFF ∧ s.registerRead 0 3 = 0xFFFF
      ∧ (s.link.platformLow = false → t.registerRead 0 3 = 0x5C03 ∧ t.registerRead 2 3 = 0x0010)))
  ∧
  (∀ (s : State),
    s.Live ∧ s.link.up = true →
    ∃ t, exec .linkStart s = .next t ∧
      t = s)

/-- ALWAYS_ON_SUPPLY_LOSS (R127, R130, R137, R139): a program leaves its slot with no bit cleared that the image does
not clear, an erase leaves any bytes in its sector, a boundary step leaves the boundary between its target and its old
value, and no other byte or mark changes; the pins stay. What the cells and marks hold comes as operands, by the
model's choice (assumption 6), and that the pins stay is its choice too (assumptions 1 and 17). -/
def Obligations.SupplyLossCutsOperation : Prop :=
  (∀ (cells : List Byte) (marks : BitVec 55) (s : State),
    s.powered = true ∧ s.hist.op = .idle →
    ∃ t, exec (.alwaysOnSupplyLoss cells marks) s = .next t ∧
      (t.powered = false ∧ t.pending = s.pending ∧ t.pins = s.pins ∧ t.hist.array = s.hist.array
        ∧ t.hist.marks = s.hist.marks ∧ t.hist.boundary = boundaryOf s.hist.marks))
  ∧
  (∀ (cells : List Byte) (marks : BitVec 55) (sector slot seq : Nat) (image : List Byte) (s : State),
    s.powered = true ∧ memWf arrayDefault s.hist.array = true ∧ s.hist.op = .program sector slot seq image
      ∧ sector < 63 ∧ slot < 32 ∧ image.length = 64 →
    ∃ t, exec (.alwaysOnSupplyLoss cells marks) s = .next t ∧
      (t.powered = false ∧ t.pending = s.pending ∧ t.pins = s.pins ∧ t.hist.marks = s.hist.marks
        ∧ t.hist.boundary = boundaryOf s.hist.marks
        ∧ (∀ k, k < 64 → t.hist.byte (slotAddr sector slot + k) &&& image.getD k 0 = image.getD k 0)
        ∧ (∀ a, a < 0x20000 → ¬(slotAddr sector slot ≤ a ∧ a < slotAddr sector slot + 64) →
            t.hist.byte a = s.hist.byte a)))
  ∧
  (∀ (cells : List Byte) (marks : BitVec 55) (sector attempt : Nat) (start : Time) (s : State),
    s.powered = true ∧ memWf arrayDefault s.hist.array = true ∧ s.hist.op = .erase sector attempt start
      ∧ sector < 63 →
    ∃ t, exec (.alwaysOnSupplyLoss cells marks) s = .next t ∧
      (t.powered = false ∧ t.pending = s.pending ∧ t.pins = s.pins ∧ t.hist.marks = s.hist.marks
        ∧ t.hist.boundary = boundaryOf s.hist.marks
        ∧ (∀ a, a < 0x20000 → ¬(2048 * sector ≤ a ∧ a < 2048 * sector + 2048) → t.hist.byte a = s.hist.byte a)))
  ∧
  (∀ (cells : List Byte) (marks : BitVec 55) (b attempt oldB : Nat) (s : State),
    s.powered = true ∧ s.hist.op = .boundary b attempt oldB ∧ 8 ≤ b ∧ b ≤ boundaryOf s.hist.marks →
    ∃ t, exec (.alwaysOnSupplyLoss cells marks) s = .next t ∧
      (t.powered = false ∧ t.pending = s.pending ∧ t.pins = s.pins ∧ t.hist.array = s.hist.array
        ∧ s.hist.marks &&& t.hist.marks = s.hist.marks ∧ t.hist.boundary = boundaryOf t.hist.marks
        ∧ b ≤ t.hist.boundary ∧ t.hist.boundary ≤ boundaryOf s.hist.marks))

/-- While the Link Port does not serve (R149, R162) every host access is without effect: reads give 0xFFFF, and
writes, postings and register writes change nothing; a read of ATTN changes no more than the word last read, which the
model keeps (assumption 24). -/
def Obligations.UnservedHostHasNoEffect : Prop :=
  ∀ (s : State),
    s.Live ∧ s.hostServed = false →
    (∀ (off : BitVec 13) (w : Half) (en : BitVec 2), exec (.hostWrite off w en) s = .next s)
      ∧ (∀ e : EntryId, exec (.withdraw e) s = .next s ∧ exec (.giveBack e) s = .next s)
      ∧ (∀ (k : Fin 32) (c : Byte), exec (.consume k c) s = .next s)
      ∧ (∀ (w : Half) (en : BitVec 2), exec (.attnClr w en) s = .next s ∧ exec (.attnMask w en) s = .next s)
      ∧ (∀ x : Bool, exec (.arm x) s = .next s ∧ exec (.linkReset x) s = .next s)
      ∧ (∀ (off : BitVec 4) (w : Half) (en : BitVec 2), exec (.registerWriteNoEffect off w en) s = .next s)
      ∧ (∀ en : BitVec 2, en ≠ 0 → exec (.attnRead en) s = .next { s with link.readData := 0xFFFF })
      ∧ (∀ e : EntryId, exec (.badKind e) s = .next s ∧ exec (.setup e) s = .next s ∧ exec (.setClock e) s = .next s
        ∧ exec (.noticeRoute e) s = .next s ∧ exec (.cancel e) s = .next s ∧ exec (.setSourcePolicy e) s = .next s
        ∧ exec (.swapPrepare e) s = .next s ∧ exec (.swapAbort e) s = .next s
        ∧ exec (.packSetCapacity e) s = .next s ∧ exec (.setPackWarn e) s = .next s
        ∧ exec (.installCurve e) s = .next s ∧ exec (.setBrightness e) s = .next s
        ∧ exec (.setCeilings e) s = .next s ∧ exec (.setFilter e) s = .next s
        ∧ exec (.indicatorPulse e) s = .next s ∧ exec (.setDropThresholds e) s = .next s
        ∧ exec (.motionArm e) s = .next s ∧ exec (.historyAppendNote e) s = .next s
        ∧ exec (.historyMap e) s = .next s ∧ exec (.historyProtect e) s = .next s
        ∧ exec (.historyLocate e) s = .next s)
      ∧ (∀ (off : Nat) (en : BitVec 2), s.hostRead off en = 0xFFFF ∧ s.registerRead off en = 0xFFFF)

/-- PLTRST# (R162, R87, R163): its assertion frees every entry, clears the notices and the route map, leaves RESTART
alone in ATTN, clears the mask, ARM and the setup latch, turns the overlay off and discards a staged curve; its
deassertion returns the display settings to their defaults with one evaluation. With the supply down only the level of
the pin is taken (the model's choice, assumption 17). LINK_RESET (R160): every entry is FREE, the queue is empty, the
notices and routes are cleared, the overlay is off, ATTN is clear, the part page tells the cause and no refused
offset; then ARM takes the value written. Mask, setup latch, staged curve and every other byte stay. The part page
shows the cause of either reset in the reset's event, or, by inference (DEDUCED, assumption 11), once an update of it
that is under way has ended. No entry is queued at the deassertion: the assertion frees every entry, and no posting is
taken while PLTRST# is low. -/
def Obligations.PlatformAndLinkReset : Prop :=
  (∀ (s : State),
    s.Live ∧ s.link.platformLow = false →
    ∃ t, exec .pltrstAssertion s = .next t ∧
      State.Settled ({ s.linkCleared .platform with
        bright.staged := none
        link.attn := attnRestart
        link.mask := 0
        link.arm := false
        link.setupTaken := false
        link.platformLow := true }.touch .part) t
        ∧ t.attnAsserted = false)
  ∧
  (∀ (s : State),
    s.Live ∧ s.link.platformLow = true ∧ s.req.intake = [] →
    ∃ t, exec .pltrstDeassertion s = .next t ∧
      State.Settled (evaluate true { s with
        link.platformLow := false
        bright := { s.bright with
          mode := .auto, manual := 500, offset := 0, battCeil := 700, bridgeCeil := 200, threshold := 20000,
          reserve := 30, attack := 1, release := 4, ramp := 20, curve := Config.factoryCurve, origin := .factory,
          staged := none } }) t)
  ∧
  (∀ (s : State),
    s.Live ∧ s.link.platformLow = true →
    ∃ t, exec .pltrstAssertion s = .next t ∧
      t = s)
  ∧
  (∀ (s : State),
    s.Live ∧ s.link.platformLow = false →
    ∃ t, exec .pltrstDeassertion s = .next t ∧
      t = s)
  ∧
  (∀ (s : State),
    s.powered = false →
    ∃ t, exec .pltrstAssertion s = .next t ∧
      (t.powered = false ∧ t.pins = { s.pins with platformLow := true } ∧ t.hist.array = s.hist.array
        ∧ t.hist.marks = s.hist.marks))
  ∧
  (∀ (s : State),
    s.powered = false →
    ∃ t, exec .pltrstDeassertion s = .next t ∧
      (t.powered = false ∧ t.pins = { s.pins with platformLow := false } ∧ t.hist.array = s.hist.array
        ∧ t.hist.marks = s.hist.marks))
  ∧
  (∀ (arm : Bool) (s : State),
    s.hostServed = true ∧ s.Live →
    ∃ t, exec (.linkReset arm) s = .next t ∧
      (State.Settled ({ s.linkCleared .link with link.arm := arm }.touch .part) t
        ∧ t.attnAsserted = false))

/-! ## The host's accesses -/

/-- ATTN_READ (R158): the read returns the enabled bytes of ATTN and makes ARM 0 if ATTN# is asserted; the line is
then deasserted, and nothing else changes (the model keeps the word last read, a byte that is not enabled as 0: its
choices, assumptions 24 and 37). Register writes (R156, R157, R158): ATTN_CLR clears the flags written 1 and no
others, ATTN_MASK is replaced in its five positions, ARM takes the value written, and a write to any other register,
or by the high byte alone, changes nothing; IDENT, ATTN, ATTN_MASK and LINK_CTRL read back as they stand, and offsets
0xA to 0xF read 0. -/
def Obligations.RegistersAct : Prop :=
  (∀ (en : BitVec 2) (s : State),
    s.hostServed = true ∧ s.Live ∧ en ≠ 0 →
    ∃ t, exec (.attnRead en) s = .next t ∧
      (t = { s with
          link.readData := if en.getLsbD 0 then s.link.attn.setWidth 16 else 0
          link.arm := s.link.arm && decide (s.link.attn &&& s.link.mask = 0) }
        ∧ t.attnAsserted = false))
  ∧
  (∀ (s : State),
    s.hostServed = true ∧ s.Live →
    (∀ (w : Half) (en : BitVec 2), exec (.attnClr w en) s = .next { s with
        link.attn := if en.getLsbD 0 then s.link.attn &&& ~~~(w.setWidth 5) else s.link.attn })
      ∧ (∀ (w : Half) (en : BitVec 2), exec (.attnMask w en) s = .next { s with
          link.mask := if en.getLsbD 0 then w.setWidth 5 else s.link.mask })
      ∧ (∀ x : Bool, exec (.arm x) s = .next { s with link.arm := x })
      ∧ (∀ (off : BitVec 4) (w : Half) (en : BitVec 2),
          (Instr.registerWriteNoEffect off w en).wellFormed = true → exec (.registerWriteNoEffect off w en) s = .next s)
      ∧ s.registerRead 0 3 = 0x5C03 ∧ s.registerRead 2 3 = s.link.attn.setWidth 16
      ∧ s.registerRead 6 3 = s.link.mask.setWidth 16
      ∧ s.registerRead 8 3 = (if s.link.arm then 1 else 0) ||| (if s.hist.mapped.isSome then 0x100 else 0)
          ||| (if s.link.setupTaken then 0x200 else 0)
      ∧ (∀ off, 10 ≤ off → off < 16 → s.registerRead off 3 = 0))

/-- HOST_WRITE to a word the host owns, other than a state word (R148, R150, R151): the enabled bytes are stored and
nothing else changes. -/
def Obligations.HostWriteStores : Prop :=
  ∀ (off : BitVec 13) (w : Half) (en : BitVec 2) (s : State),
    s.hostServed = true ∧ s.Live ∧ s.QueueLaw ∧ s.HostOwned off.toNat ∧ en ≠ 0 →
    ∃ t, exec (.hostWrite off w en) s = .next t ∧
      (t = { s with link.memory := t.link.memory }
        ∧ ∀ a, a < 0x2000 → t.xread a =
            if a = off.toNat ∧ en.getLsbD 0 = true then w.setWidth 8
            else if a = off.toNat + 1 ∧ en.getLsbD 1 = true then (w >>> 8).setWidth 8
            else s.xread a)

/-- A host write that R152 refuses, as a HOST_WRITE or as the WITHDRAW or the FREE written to a state word that does
not allow it: no byte is stored, ATTN OWNERSHIP is set, and the part page records the offset in the same event, or, by
inference (DEDUCED, assumption 11), once an update of it that is under way has ended. -/
def Obligations.RefusedWriteIsDropped : Prop :=
  (∀ (off : BitVec 13) (w : Half) (en : BitVec 2) (s : State),
    s.hostServed = true ∧ s.Live ∧ s.RefusedWrite off.toNat w en →
    ∃ t, exec (.hostWrite off w en) s = .next t ∧
      State.Settled ({ s with
        link.attn := s.link.attn ||| attnOwnership, link.lastRefused := off.setWidth 16 }.touch .part) t)
  ∧
  (∀ (e : EntryId) (s : State),
    s.hostServed = true ∧ s.Live ∧ s.entry e ≠ .posted →
    ∃ t, exec (.withdraw e) s = .next t ∧
      State.Settled ({ s with
        link.attn := s.link.attn ||| attnOwnership, link.lastRefused := BitVec.ofNat 16 (entryBase e) }.touch .part) t)
  ∧
  (∀ (e : EntryId) (s : State),
    s.hostServed = true ∧ s.Live ∧ s.entry e ≠ .done →
    ∃ t, exec (.giveBack e) s = .next t ∧
      State.Settled ({ s with
        link.attn := s.link.attn ||| attnOwnership, link.lastRefused := BitVec.ofNat 16 (entryBase e) }.touch .part) t)

/-- WITHDRAW of a POSTED entry (R169): it leaves the intake queue and finishes WITHDRAWN with no data. Give-back of a
DONE entry (R170): its state word reads FREE and nothing else changes. A posting to a busy unit (R165, R166): the
entry is POSTED at the tail of the intake queue, and nothing else changes; what makes a unit busy is the table of
R167. A unit that falls free takes its oldest queued entry in that event (R167), wherever it stands in the queue: the
end of a pulse group starts the next INDICATOR_PULSE, which leaves the unit busy, and the end of a preparation serves
a SET_PACK_WARN. Pulses completed as one byte of result data is the model's choice (assumption 12). -/
def Obligations.WithdrawAndGiveBack : Prop :=
  (∀ (e : EntryId) (s : State),
    s.hostServed = true ∧ s.Live ∧ s.entry e = .posted →
    ∃ t, exec (.withdraw e) s = .next t ∧
      State.Served { s with req.intake := s.req.intake.filter (fun x => x ≠ e) } t e .withdrawn 0 [])
  ∧
  (∀ (e : EntryId) (s : State),
    s.hostServed = true ∧ s.Live ∧ s.entry e = .done →
    ∃ t, exec (.giveBack e) s = .next t ∧
      t = { s with req.entries := s.req.entries.set e .free })
  ∧
  (∀ (k : ReqKind) (u : UnitId) (e : EntryId) (s : State),
    s.Postable (some k) e ∧ k.unit = some u ∧ s.busy u = true →
    ∃ t, exec (k.posting e) s = .next t ∧
      t = { s with req.entries := s.req.entries.set e .posted, req.intake := s.req.intake ++ [e] })
  ∧
  (∀ (s : State),
    (s.busy .power = true ↔ s.req.actPower ≠ none ∨ s.src.prep.pending = true)
      ∧ (s.busy .display = true ↔ s.req.actDisplay ≠ none ∨ s.bright.staged ≠ none)
      ∧ (s.busy .motion = true ↔ s.req.actMotion ≠ none ∨ s.motion.disarmPending = true)
      ∧ (s.busy .history = true ↔
        s.req.actHistory ≠ none ∨ s.hist.note ≠ none ∨ s.hist.protect ≠ none ∨ s.hist.scanning = true))
  ∧
  (∀ (g : Group) (e y : EntryId) (older younger : List EntryId) (s : State),
    s.Live ∧ s.QueueLaw ∧ s.drv.active = some g ∧ g.phaseOn = false ∧ g.offMs ≤ (s.time - g.phaseStart).toNat
      ∧ g.completed = g.count ∧ g.entry = some e ∧ s.req.actDisplay = some e ∧ s.bright.staged = none
      ∧ s.drv.waitSwap = none ∧ s.drv.waitDrop = none ∧ s.drv.waitHost = none
      ∧ s.req.intake = older ++ y :: younger ∧ (∀ x ∈ older, s.unitOf x ≠ some .display)
      ∧ reqKindOf (s.kindCode y) = some .indicatorPulse →
    ∃ t, exec .offTimeEnd s = .next t ∧
      State.Served { s with
          drv.active := some (s.hostGroup y true s.time)
          req.entries := s.req.entries.set y .active
          req.intake := older ++ younger
          req.actDisplay := some y } t e (if g.flags = 0 then .ok else .clamped) g.flags (le 1 g.completed))
  ∧
  (∀ (e y : EntryId) (older younger : List EntryId) (s : State),
    s.Live ∧ s.QueueLaw ∧ s.src.prep.pending = true ∧ s.src.prep.request = some e ∧ s.req.actPower = some e
      ∧ s.src.prep.latchNote = false ∧ (s.bay s.src.prep.bay).state = .empty
      ∧ s.req.intake = older ++ y :: younger ∧ (∀ x ∈ older ++ younger, s.unitOf x ≠ some .power)
      ∧ reqKindOf (s.kindCode y) = some .setPackWarn
      ∧ 1 ≤ s.arg y 0 1 ∧ s.arg y 0 1 ≤ 50 →
    ∃ t, exec .preparationSwitchOver s = .next t ∧
      State.ServedTwo { s with
          src.prep := { s.src.prep with pending := false, request := none }
          src.warn := s.arg y 0 1
          req.intake := older ++ younger
          req.actPower := none } t e y .wrongState .ok [] [])

/-- CONSUME (R181): a count at or above the raised count empties the slot, a lower one is subtracted; payload, raise
time and ATTN stay, and the consumed byte reads 0. A raise and a consume of at most the raised count leave the same
count in either order, with the slot fresh. A raise of kind `k` (R180): the payload and the raise time are replaced,
the count rises by one or, at 255, the saturated flag is set, the slot is fresh, and the flag of the route's group is
set if its notify is on; nothing else changes. -/
def Obligations.NoticesRaisedAndConsumed : Prop :=
  (∀ (k : Fin 32) (c : Byte) (s : State),
    s.hostServed = true ∧ s.Live →
    ∃ t, exec (.consume k c) s = .next t ∧
      (t = { s with
          notices := s.notices.set k
            (if s.notices[k].raised ≤ c.toNat then
              { s.notices[k] with raised := 0, fresh := false, saturated := false }
            else { s.notices[k] with raised := s.notices[k].raised - c.toNat }) }
        ∧ (t.slotBytes k).getD 3 1 = 0))
  ∧
  (∀ (x : NoticeSlot) (c : Nat) (now : Time) (payload : List Byte),
    x.Law → c ≤ x.raised → x.raised < 255 →
    ((x.consume c).raise now payload).raised = x.raised - c + 1
      ∧ ((x.raise now payload).consume c).raised = x.raised - c + 1
      ∧ ((x.consume c).raise now payload).fresh = true ∧ ((x.raise now payload).consume c).fresh = true)
  ∧
  (∀ (k : NoticeKind) (payload : List Byte) (s : State),
    raise k payload s = { s with
      notices := s.notices.set k.place
        { fresh := true,
          raised := if s.notices[k.place].raised < 255 then s.notices[k.place].raised + 1 else s.notices[k.place].raised,
          saturated := s.notices[k.place].saturated || decide (255 ≤ s.notices[k.place].raised),
          time := s.time,
          payload := (payload ++ List.replicate 8 0).take 8 }
      link.attn := s.link.attn ||| (if s.routes[k.slot].notify then
        (if s.routes[k.slot].group = .groupA then attnNoticeA else attnNoticeB) else 0) })

/-! ## Requests of the LINK unit -/

/-- BAD_KIND (R165): posting an entry whose kind names no request finishes it at once with BAD_KIND, flags 0 and data
0, and changes nothing else. NOTICE_ROUTE (R176): arguments without a code finish BAD_ARG with no change; else the
kind's route alone changes. -/
def Obligations.BadKindAndRouteAnswered : Prop :=
  (∀ (e : EntryId) (s : State),
    s.Postable none e →
    ∃ t, exec (.badKind e) s = .next t ∧
      State.Served s t e .badKind 0 [])
  ∧
  (∀ (e : EntryId) (s : State),
    s.Postable (some .noticeRoute) e ∧ (22 < s.arg e 0 1 ∨ 1 < s.arg e 1 1 ∨ 1 < s.arg e 2 1) →
    ∃ t, exec (.noticeRoute e) s = .next t ∧
      State.Served s t e .badArg 0 [])
  ∧
  (∀ (e : EntryId) (k : Fin 23) (s : State),
    s.Postable (some .noticeRoute) e ∧ s.arg e 0 1 = k.val ∧ s.arg e 1 1 ≤ 1 ∧ s.arg e 2 1 ≤ 1 →
    ∃ t, exec (.noticeRoute e) s = .next t ∧
      State.Served { s with
          routes := s.routes.set k
            { notify := decide (s.arg e 1 1 = 1), group := if s.arg e 2 1 = 0 then .groupA else .groupB } }
        t e .ok 0 (le 1 (s.arg e 1 1) ++ le 1 (s.arg e 2 1)))

/-- SETUP (R173, R174): with setup taken it finishes ALREADY_SET with the values in force; with a polarity or
inversion that has no code it finishes BAD_ARG; else the nine clamped values come into force, SETUP_TAKEN is set, the
compare is recomputed (R85) and the driver takes the parameters (R94), and nothing else changes when every gauge
record lies within the bounds of the nominal capacity and the laws of the compare and of the backlight hold, which
`ValueLawsKept` keeps: the backlight is DARK exactly while it is held DARK (R89). A new nominal capacity (R60) clamps
each record's full into the new bounds, its remaining to its full, and recomputes its SoC; sub, D, the learn flag, the
saturation count and the residual stay. The widths of minimum on-count, debounce exponent and on-delay in the result data are the model's
choice (assumption 12), and the order of the blocks is DEDUCED (assumption 22). -/
def Obligations.SetupJudged : Prop :=
  (∀ (e : EntryId) (s : State),
    s.Postable (some .setup) e ∧ s.link.setupTaken = true →
    ∃ t, exec (.setup e) s = .next t ∧
      State.Served s t e .alreadySet 0 (setupBytes s.setup))
  ∧
  (∀ (e : EntryId) (s : State),
    s.Postable (some .setup) e ∧ s.link.setupTaken = false ∧ (1 < s.arg e 2 1 ∨ 1 < s.arg e 3 1) →
    ∃ t, exec (.setup e) s = .next t ∧
      State.Served s t e .badArg 0 [])
  ∧
  (∀ (e : EntryId) (s : State),
    s.Postable (some .setup) e ∧ s.link.setupTaken = false ∧ s.arg e 2 1 ≤ 1 ∧ s.arg e 3 1 ≤ 1
      ∧ (∀ r ∈ s.gauge.recA, r.Law (s.askedSetup e).nominal) ∧ (∀ r ∈ s.gauge.recB, r.Law (s.askedSetup e).nominal)
      ∧ s.CompareLaw ∧ s.DarkLaw →
    ∃ t, exec (.setup e) s = .next t ∧
      State.Served ({ s with
          setup := s.askedSetup e
          link.setupTaken := true
          bright.compare := compareOf s.bright.current (s.askedSetup e).period (s.askedSetup e).minOn
          drv := s.drv.setUp (s.askedSetup e)
            (compareOf s.bright.current (s.askedSetup e).period (s.askedSetup e).minOn)
            (decide (s.bright.current = 0)) s.time }.touch .part)
        t e (if s.askedSetupFlags e = 0 then .ok else .clamped) (s.askedSetupFlags e) (setupBytes (s.askedSetup e)))
  ∧
  (∀ (e : EntryId) (s : State),
    s.Postable (some .setup) e ∧ s.link.setupTaken = false ∧ s.arg e 2 1 ≤ 1 ∧ s.arg e 3 1 ≤ 1
      ∧ (s.askedSetup e).nominal ≠ s.setup.nominal →
    ∃ t, exec (.setup e) s = .next t ∧
      (t.setup = s.askedSetup e
      ∧ ∀ b ∈ [BayId.bayA, BayId.bayB],
        (t.gaugeRec b).map (fun r => (r.full, r.remaining, r.soc, r.sub, r.drawn, r.learn, r.satCount, r.residual))
          = (s.gaugeRec b).map (fun r =>
            (clamp ((s.askedSetup e).nominal * 1800) ((s.askedSetup e).nominal * 3960) r.full,
              min r.remaining (clamp ((s.askedSetup e).nominal * 1800) ((s.askedSetup e).nominal * 3960) r.full),
              min r.remaining (clamp ((s.askedSetup e).nominal * 1800) ((s.askedSetup e).nominal * 3960) r.full) * 100
                / clamp ((s.askedSetup e).nominal * 1800) ((s.askedSetup e).nominal * 3960) r.full,
              r.sub, r.drawn, r.learn, r.satCount, r.residual))))

/-- SET_CLOCK (R175, R136): the clock takes the argument and is set, its count toward the next second starts again,
and a CLOCK record is handed over: it waits in the list while the array is busy, starts its program at an erased head
slot of an idle array with the next sequence number (R131, R132, R135), and is lost, with HISTORY_LOST raised, in
FAULT and where eight records wait already. The result gives the previous clock and set flag. -/
def Obligations.SetClockHandsRecord : Prop :=
  (∀ (e : EntryId) (s : State),
    s.Postable (some .setClock) e ∧ s.Room 1 →
    ∃ t, exec (.setClock e) s = .next t ∧
      State.Served ({ s with
          clock := { seconds := BitVec.ofNat 32 (s.arg e 0 4), set := true, base := s.time }
          hist.list := s.hist.list ++ [s.clockRecord (s.arg e 0 4)] }.touch .part)
        t e .ok 0 (leBytes 4 s.clock.seconds.toNat ++ [if s.clock.set then 1 else 0]))
  ∧
  (∀ (e : EntryId) (s : State),
    s.Postable (some .setClock) e ∧ s.hist.fault = none ∧ s.hist.op = .idle ∧ s.hist.scanning = false
      ∧ s.hist.tries = 0 ∧ slotErased (s.hist.slotBytes s.hist.headSector s.hist.headSlot) = true →
    ∃ t, exec (.setClock e) s = .next t ∧
      State.Served ({ s with
          clock := { seconds := BitVec.ofNat 32 (s.arg e 0 4), set := true, base := s.time }
          hist.list := [s.clockRecord (s.arg e 0 4)]
          hist.nextSeq := s.hist.nextSeq + 1
          hist.op := .program s.hist.headSector s.hist.headSlot s.hist.nextSeq
            (recordImage (s.clockRecord (s.arg e 0 4)) s.hist.nextSeq false) }.touch .part)
        t e .ok 0 (leBytes 4 s.clock.seconds.toNat ++ [if s.clock.set then 1 else 0]))
  ∧
  (∀ (e : EntryId) (s : State),
    s.Postable (some .setClock) e ∧ s.hist.fault.isSome = true →
    ∃ t, exec (.setClock e) s = .next t ∧
      State.Served (raise .historyLost (le 1 5 ++ le 1 2 ++ le 2 (min 65535 (s.hist.lost + 1))) ({ s with
          clock := { seconds := BitVec.ofNat 32 (s.arg e 0 4), set := true, base := s.time }
          hist.lost := min 65535 (s.hist.lost + 1) }.touch .part))
        t e .ok 0 (leBytes 4 s.clock.seconds.toNat ++ [if s.clock.set then 1 else 0]))
  ∧
  (∀ (e : EntryId) (s : State),
    s.Postable (some .setClock) e ∧ s.hist.fault = none ∧ 8 ≤ s.hist.list.length →
    ∃ t, exec (.setClock e) s = .next t ∧
      State.Served (raise .historyLost (le 1 5 ++ le 1 0 ++ le 2 (min 65535 (s.hist.lost + 1))) ({ s with
          clock := { seconds := BitVec.ofNat 32 (s.arg e 0 4), set := true, base := s.time }
          hist.lost := min 65535 (s.hist.lost + 1) }.touch .part))
        t e .ok 0 (leBytes 4 s.clock.seconds.toNat ++ [if s.clock.set then 1 else 0]))

/-- CANCEL (R177) of an index outside 0..15 or of its own entry, of a FREE or DONE entry, of a POSTED entry, and of an
ACTIVE request that cannot be cancelled. Zero data with BAD_ARG and the target's index in one byte are the model's
choice (assumption 12). -/
def Obligations.CancelJudgesTarget : Prop :=
  (∀ (e : EntryId) (s : State),
    s.Postable (some .cancel) e ∧ (15 < s.arg e 0 1 ∨ s.arg e 0 1 = e.val) →
    ∃ t, exec (.cancel e) s = .next t ∧
      State.Served s t e .badArg 0 [])
  ∧
  (∀ (e x : EntryId) (s : State),
    s.Postable (some .cancel) e ∧ s.arg e 0 1 = x.val ∧ x ≠ e ∧ (s.entry x = .free ∨ s.entry x = .done) →
    ∃ t, exec (.cancel e) s = .next t ∧
      State.Served s t e .wrongState 0
        (le 1 x.val ++ leBytes 2 (s.entry x).word.toNat ++ [s.xread (entryBase x + 4)]))
  ∧
  (∀ (e x : EntryId) (s : State),
    s.Postable (some .cancel) e ∧ s.arg e 0 1 = x.val ∧ s.entry x = .posted →
    ∃ t, exec (.cancel e) s = .next t ∧
      State.ServedTwo { s with req.intake := s.req.intake.filter (fun y => y ≠ x) } t x e .withdrawn .ok []
        (le 1 x.val ++ [0xD0, 0xD0, 9]))
  ∧
  (∀ (e x : EntryId) (s : State),
    s.Postable (some .cancel) e ∧ s.arg e 0 1 = x.val ∧ s.entry x = .active
      ∧ reqKindOf (s.kindCode x) ≠ some .indicatorPulse ∧ reqKindOf (s.kindCode x) ≠ some .historyAppendNote →
    ∃ t, exec (.cancel e) s = .next t ∧
      State.Served s t e .wrongState 0 (le 1 x.val ++ [0xA0, 0xA0] ++ [s.xread (entryBase x + 4)]))

/-- CANCEL of an ACTIVE INDICATOR_PULSE ends its HOST group, waiting or active (R100); of an ACTIVE NOTE it ends one
that waits for the array and returns TOO_LATE for one whose first try has begun (R144). The target finishes CANCELLED
first, and with no request queued nothing else changes. Pulses completed and the target's index as one byte each of
result data are the model's choice (assumption 12). -/
def Obligations.CancelEndsPulseOrNote : Prop :=
  (∀ (e x : EntryId) (g : Group) (s : State),
    s.Postable (some .cancel) e ∧ s.arg e 0 1 = x.val ∧ s.req.actDisplay = some x ∧ s.req.intake = []
      ∧ reqKindOf (s.kindCode x) = some .indicatorPulse ∧ s.drv.waitHost = some g ∧ g.entry = some x →
    ∃ t, exec (.cancel e) s = .next t ∧
      State.ServedTwo { s with drv.waitHost := none, req.actDisplay := none } t x e .cancelled .ok (le 1 g.completed)
        (le 1 x.val ++ [0xD0, 0xD0, 10]))
  ∧
  (∀ (e x : EntryId) (g : Group) (s : State),
    s.Postable (some .cancel) e ∧ s.arg e 0 1 = x.val ∧ s.req.actDisplay = some x ∧ s.req.intake = []
      ∧ reqKindOf (s.kindCode x) = some .indicatorPulse ∧ s.drv.waitHost = none ∧ s.drv.active = some g
      ∧ g.cls = .host ∧ g.entry = some x →
    ∃ t, exec (.cancel e) s = .next t ∧
      State.ServedTwo { s with drv := s.drv.waitingStarted s.time, req.actDisplay := none } t x e .cancelled .ok (le 1 g.completed)
        (le 1 x.val ++ [0xD0, 0xD0, 10]))
  ∧
  (∀ (e x : EntryId) (n : Note) (s : State),
    s.Postable (some .cancel) e ∧ s.arg e 0 1 = x.val ∧ s.req.actHistory = some x ∧ s.req.intake = []
      ∧ reqKindOf (s.kindCode x) = some .historyAppendNote ∧ s.hist.note = some n ∧ n.started = false →
    ∃ t, exec (.cancel e) s = .next t ∧
      State.ServedTwo { s with hist.note := none, req.actHistory := none } t x e .cancelled .ok []
        (le 1 x.val ++ [0xD0, 0xD0, 10]))
  ∧
  (∀ (e x : EntryId) (n : Note) (s : State),
    s.Postable (some .cancel) e ∧ s.arg e 0 1 = x.val ∧ s.entry x = .active
      ∧ reqKindOf (s.kindCode x) = some .historyAppendNote ∧ s.hist.note = some n ∧ n.started = true →
    ∃ t, exec (.cancel e) s = .next t ∧
      State.Served s t e .tooLate 0 (le 1 x.val ++ [0xA0, 0xA0] ++ [s.xread (entryBase x + 4)]))

/-! ## Requests of the POWER unit -/

/-- SET_SOURCE_POLICY (R19): a value without a code finishes BAD_ARG, the present policy finishes OK, and neither has
a further effect; a new policy is stored and source selection runs with it. SET_PACK_WARN (R23) stores the level
clamped into 1..50. -/
def Obligations.PolicyAndWarnSet : Prop :=
  (∀ (e : EntryId) (s : State),
    s.Taken .setSourcePolicy e ∧ 2 < s.arg e 0 1 →
    ∃ t, exec (.setSourcePolicy e) s = .next t ∧
      State.Served s t e .badArg 0 [])
  ∧
  (∀ (e : EntryId) (p : Policy) (s : State),
    s.Taken .setSourcePolicy e ∧ s.arg e 0 1 = p.code ∧ p = s.src.policy →
    ∃ t, exec (.setSourcePolicy e) s = .next t ∧
      State.Served s t e .ok 0 [])
  ∧
  (∀ (e : EntryId) (p : Policy) (s : State),
    s.Taken .setSourcePolicy e ∧ s.arg e 0 1 = p.code ∧ p ≠ s.src.policy ∧ s.Fed →
    ∃ t, exec (.setSourcePolicy e) s = .next t ∧
      State.Served (runSelection { s with src.policy := p }) t e .ok 0 [])
  ∧
  (∀ (e : EntryId) (s : State),
    s.Taken .setPackWarn e →
    ∃ t, exec (.setPackWarn e) s = .next t ∧
      State.Served { s with src.warn := max 1 (min 50 (s.arg e 0 1)) } t e
        (if 1 ≤ s.arg e 0 1 ∧ s.arg e 0 1 ≤ 50 then .ok else .clamped)
        (if 1 ≤ s.arg e 0 1 ∧ s.arg e 0 1 ≤ 50 then 0 else 1) [])

/-- SWAP_PREPARE (R32): a bay without a code finishes BAD_ARG; a bay neither READY nor FEEDING WRONG_STATE; a FEEDING
bay that is stranded or has no alternative NO_SOURCE; a FEEDING bay with an alternative makes the preparation pending
and the request stays ACTIVE; a READY bay enters SWAP_PREPARED at once (R34) and the request finishes OK in the same
event, with source selection and charge selection run and a SWAP group given. That selection runs on the entry, before
charge selection, is the model's choice (assumption 19): it may re-engage the bay at once for a stranded one. A HOST
group that the SWAP group displaces finishes its request DISPLACED first (R97), with the pulses completed as one byte,
the model's choice (assumption 12). That a depleted bay re-engaged at once still feeds is its choice too (assumption
34). The last clause holds whatever the DISPLAY unit and selection find to do. -/
def Obligations.SwapPrepareJudged : Prop :=
  (∀ (e : EntryId) (s : State),
    s.Taken .swapPrepare e ∧ 1 < s.arg e 0 1 →
    ∃ t, exec (.swapPrepare e) s = .next t ∧
      State.Served s t e .badArg 0 [])
  ∧
  (∀ (e : EntryId) (b : BayId) (s : State),
    s.Taken .swapPrepare e ∧ s.arg e 0 1 = b.code ∧ (s.bay b).state ≠ .ready ∧ (s.bay b).state ≠ .feeding →
    ∃ t, exec (.swapPrepare e) s = .next t ∧
      State.Served s t e .wrongState 0 [])
  ∧
  (∀ (e : EntryId) (b : BayId) (s : State),
    s.Taken .swapPrepare e ∧ s.arg e 0 1 = b.code ∧ (s.bay b).state = .feeding
      ∧ ((s.bay b).latchOpen = true ∨ ¬s.hasAlternative b) →
    ∃ t, exec (.swapPrepare e) s = .next t ∧
      State.Served s t e .noSource 0 [])
  ∧
  (∀ (e : EntryId) (b : BayId) (s : State),
    s.Taken .swapPrepare e ∧ s.arg e 0 1 = b.code ∧ (s.bay b).state = .feeding ∧ (s.bay b).latchOpen = false
      ∧ s.hasAlternative b →
    ∃ t, exec (.swapPrepare e) s = .next t ∧
      t = { s with
        src.prep := { pending := true, bay := b, latchNote := false, request := some e, since := s.time }
        req.entries := s.req.entries.set e .active
        req.actPower := some e })
  ∧
  (∀ (e : EntryId) (b : BayId) (s : State),
    s.Taken .swapPrepare e ∧ s.arg e 0 1 = b.code ∧ (s.bay b).state = .ready ∧ s.NoHostDisplaced
      ∧ s.src.feeding ≠ b.feed ∧ s.Fed →
    ∃ t, exec (.swapPrepare e) s = .next t ∧
      State.Served
        (giveGroup swapAnnounced (selectCharge (runSelection ((s.setBay b (s.preparedBay b)).touch .power))))
        t e .ok 0 [])
  ∧
  (∀ (e x : EntryId) (b : BayId) (g : Group) (s : State),
    s.Taken .swapPrepare e ∧ s.arg e 0 1 = b.code ∧ (s.bay b).state = .ready ∧ s.drv.active = some g ∧ g.cls = .host
      ∧ g.entry.isSome = true ∧ s.req.actDisplay = some x ∧ (∀ y ∈ s.req.intake, s.unitOf y ≠ some .display)
      ∧ s.src.feeding ≠ b.feed ∧ s.Fed →
    ∃ t, exec (.swapPrepare e) s = .next t ∧
      (let u := selectCharge (runSelection ((s.setBay b (s.preparedBay b)).touch .power))
      State.ServedTwo { u with
          drv.active := some { swapAnnounced with phaseOn := true, phaseStart := s.time }
          req.actDisplay := none }
        t x e .displaced .ok (le 1 g.completed) []))
  ∧
  (∀ (e : EntryId) (b : BayId) (s : State),
    s.Taken .swapPrepare e ∧ s.arg e 0 1 = b.code ∧ (s.bay b).state = .ready →
    ∃ t, exec (.swapPrepare e) s = .next t ∧
      (t.entry e = .done ∧ t.bytesAt (entryBase e + 4) (resultBytes .ok 0 []) ∧ t.req.actPower = none
        ∧ (t.bay b).chargeSel = false
        ∧ ((t.bay b).state = .swapPrepared ∧ (t.bay b).prior = none ∧ (t.bay b).prepStart = s.time
            ∧ (t.bay b).prepTimer = some { start := s.time, len := 1000 * s.setup.prepTimeout }
          ∨ (t.bay b).state = .feeding ∧ t.src.feeding = b.feed ∧ (t.notices[5]).fresh = true
            ∧ (t.notices[5]).payload = le 1 b.code ++ [1] ++ le 1 BayState.feeding.code ++ [0, 0, 0, 0, 0])))

/-- SWAP_ABORT (R37): a bay without a code finishes BAD_ARG; a RELEASING bay with prior state SWAP_PREPARED has its
prior state set to READY and its timer stopped; a SWAP_PREPARED bay becomes READY with its timer stopped, and source
selection and charge selection run; any other bay finishes WRONG_STATE. -/
def Obligations.SwapAbortJudged : Prop :=
  (∀ (e : EntryId) (s : State),
    s.Taken .swapAbort e ∧ 1 < s.arg e 0 1 →
    ∃ t, exec (.swapAbort e) s = .next t ∧
      State.Served s t e .badArg 0 [])
  ∧
  (∀ (e : EntryId) (b : BayId) (s : State),
    s.Taken .swapAbort e ∧ s.arg e 0 1 = b.code ∧ (s.bay b).state ≠ .swapPrepared
      ∧ ¬((s.bay b).state = .releasing ∧ (s.bay b).prior = some .swapPrepared) →
    ∃ t, exec (.swapAbort e) s = .next t ∧
      State.Served s t e .wrongState 0 [])
  ∧
  (∀ (e : EntryId) (b : BayId) (s : State),
    s.Taken .swapAbort e ∧ s.arg e 0 1 = b.code ∧ (s.bay b).state = .releasing
      ∧ (s.bay b).prior = some .swapPrepared ∧ (s.bay b).priorRel = none →
    ∃ t, exec (.swapAbort e) s = .next t ∧
      State.Served (s.setBay b { s.bay b with prior := some .ready, prepTimer := none }) t e .ok 0 [])
  ∧
  (∀ (e : EntryId) (b : BayId) (s : State),
    s.Taken .swapAbort e ∧ s.arg e 0 1 = b.code ∧ (s.bay b).state = .swapPrepared ∧ s.Fed →
    ∃ t, exec (.swapAbort e) s = .next t ∧
      State.Served
        (selectCharge (runSelection ((s.setBay b { s.bay b with
          state := .ready, prior := none, priorRel := none, prepTimer := none,
          depleted := (s.bay b).depleted || decide ((s.bay b).monitor = .tripped) }).touch .power)))
        t e .ok 0 [])

/-- PACK_SET_CAPACITY (R61): a bay without a code finishes BAD_ARG, a bay with no record or HELD WRONG_STATE; else
full becomes the value clamped into the bounds of the nominal in force, and a changed SoC is handed on (R56). What any
SoC event hands on: source selection runs, the Brightness Unit evaluates if the bay feeds, and the low arming is
checked, where an ARMED record below the warn level raises PACK_LOW and becomes FIRED and a FIRED one at or above the
level plus 5 becomes ARMED (R62). The order of the hand-overs is the model's choice (assumption 35). -/
def Obligations.PackCapacitySet : Prop :=
  (∀ (e : EntryId) (s : State),
    s.Taken .packSetCapacity e ∧ 1 < s.arg e 0 1 →
    ∃ t, exec (.packSetCapacity e) s = .next t ∧
      State.Served s t e .badArg 0 [])
  ∧
  (∀ (e : EntryId) (b : BayId) (s : State),
    s.Taken .packSetCapacity e ∧ s.arg e 0 1 = b.code ∧ (s.gaugeRec b = none ∨ (s.bay b).state = .held) →
    ∃ t, exec (.packSetCapacity e) s = .next t ∧
      State.Served s t e .wrongState 0 [])
  ∧
  (∀ (e : EntryId) (b : BayId) (r : GaugeRec) (s : State),
    s.Taken .packSetCapacity e ∧ s.arg e 0 1 = b.code ∧ s.gaugeRec b = some r ∧ (s.bay b).state ≠ .held ∧ s.Fed →
    ∃ t, exec (.packSetCapacity e) s = .next t ∧
      (let lo := s.setup.nominal * 1800
      let hi := s.setup.nominal * 3960
      let v := s.arg e 2 2 * 3600
      let r' := r.setTo (max lo (min hi v))
      State.Served
        (if r'.soc = r.soc then s.setGaugeRec b (some r') else socEvent b (s.setGaugeRec b (some r')))
        t e (if lo ≤ v ∧ v ≤ hi then .ok else .clamped) (if lo ≤ v ∧ v ≤ hi then 0 else 2)
        (le 2 (r'.full / 3600) ++ le 1 r'.soc)))
  ∧
  (∀ (b : BayId) (s : State),
    (((runSelection s).bay b).state = .feeding → socEvent b s = checkLow b (evaluate false (runSelection s)))
      ∧ (((runSelection s).bay b).state ≠ .feeding → socEvent b s = checkLow b (runSelection s)))
  ∧
  (∀ (b : BayId) (r : GaugeRec) (s : State),
    s.gaugeRec b = some r → (s.bay b).state ≠ .held →
    (r.armed = true ∧ r.soc < s.src.warn →
        checkLow b s = raise .packLow (le 1 b.code ++ le 1 r.soc ++ le 1 s.src.warn ++ le 2 (r.remaining / 3600))
          (s.setGaugeRec b (some { r with armed := false })))
      ∧ (r.armed = false ∧ s.src.warn + 5 ≤ r.soc → checkLow b s = s.setGaugeRec b (some { r with armed := true }))
      ∧ (r.armed = true ∧ s.src.warn ≤ r.soc ∨ r.armed = false ∧ r.soc < s.src.warn + 5 → checkLow b s = s))

/-! ## Requests of the DISPLAY unit -/

/-- INSTALL_CURVE (R73): a staging area that breaks a condition finishes BAD_ARG with the reason and the point index;
a valid one becomes the staged curve and the request stays ACTIVE. The point index as one byte of result data is the
model's choice (assumption 12). -/
def Obligations.InstallCurveStages : Prop :=
  (∀ (e : EntryId) (r : CurveReason) (i : Nat) (s : State),
    s.Taken .installCurve e ∧ s.curveVerdict = .error (r, i) →
    ∃ t, exec (.installCurve e) s = .next t ∧
      State.Served s t e .badArg 0 (le 1 r.code ++ le 1 i))
  ∧
  (∀ (e : EntryId) (c : List (Nat × Nat)) (s : State),
    s.Taken .installCurve e ∧ s.curveVerdict = .ok c →
    ∃ t, exec (.installCurve e) s = .next t ∧
      t = { s with bright.staged := some c, req.entries := s.req.entries.set e .active, req.actDisplay := some e })

/-- SET_BRIGHTNESS (R76) and SET_CEILINGS (R80) store their clamped values and run an evaluation; SET_FILTER (R82)
stores its values and changes nothing else. A mode without a code finishes BAD_ARG. The shifts as one byte each and
the zero data of a refused SET_BRIGHTNESS are the model's choice (assumption 12). -/
def Obligations.DisplaySettingsStored : Prop :=
  (∀ (e : EntryId) (s : State),
    s.Taken .setBrightness e ∧ 1 < s.arg e 0 1 →
    ∃ t, exec (.setBrightness e) s = .next t ∧
      State.Served s t e .badArg 0 [])
  ∧
  (∀ (e : EntryId) (s : State),
    s.Taken .setBrightness e ∧ s.arg e 0 1 ≤ 1 →
    ∃ t, exec (.setBrightness e) s = .next t ∧
      (let level := s.arg e 2 2
      let offset := (BitVec.ofNat 16 (s.arg e 4 2)).toInt
      let flags := (if 1000 < level then 2 else 0) + (if offset < -200 ∨ 200 < offset then 4 else 0)
      State.Served (evaluate false { s with
          bright.mode := if s.arg e 0 1 = 0 then .auto else .manual
          bright.manual := min 1000 level
          bright.offset := max (-200) (min 200 offset) })
        t e (if flags = 0 then .ok else .clamped) flags
        (le 1 (s.arg e 0 1) ++ le 2 (min 1000 level) ++ leInt 2 (max (-200) (min 200 offset)))))
  ∧
  (∀ (e : EntryId) (s : State),
    s.Taken .setCeilings e →
    ∃ t, exec (.setCeilings e) s = .next t ∧
      (let batt := s.arg e 0 2
      let bridge := s.arg e 2 2
      let threshold := s.arg e 4 4
      let reserve := s.arg e 8 1
      let flags := flagBits [decide (batt < 100 ∨ 1000 < batt), decide (500 < bridge),
        decide (threshold < 2000 ∨ 120000 < threshold), decide (90 < reserve)]
      State.Served (evaluate true { s with
          bright.battCeil := max 100 (min 1000 batt)
          bright.bridgeCeil := min 500 bridge
          bright.threshold := max 2000 (min 120000 threshold)
          bright.reserve := min 90 reserve })
        t e (if flags = 0 then .ok else .clamped) flags
        (le 2 (max 100 (min 1000 batt)) ++ le 2 (min 500 bridge) ++ le 3 (max 2000 (min 120000 threshold))
          ++ le 1 (min 90 reserve))))
  ∧
  (∀ (e : EntryId) (s : State),
    s.Taken .setFilter e →
    ∃ t, exec (.setFilter e) s = .next t ∧
      (let attack := s.arg e 0 1
      let release := s.arg e 1 1
      let ramp := s.arg e 2 2
      let flags := flagBits [decide (7 < attack), decide (7 < release), decide (ramp < 1 ∨ 1000 < ramp)]
      State.Served { s with
          bright.attack := min 7 attack
          bright.release := min 7 release
          bright.ramp := max 1 (min 1000 ramp) }
        t e (if flags = 0 then .ok else .clamped) flags
        (le 1 (min 7 attack) ++ le 1 (min 7 release) ++ le 2 (max 1 (min 1000 ramp)))))

/-- INDICATOR_PULSE (R99): a HOST group with the clamped figures is given to the arbiter and the request stays ACTIVE:
with no active group it starts at once, behind a SWAP or DROP group it waits. What the arbiter does with any group
(R97): with no active group it starts; a SWAP or DROP group displaces an active group of lower class, waiting places
left as they were, and a HOST group so displaced finishes its request DISPLACED with the pulses completed; behind an
active group of its own class, and a DROP group behind a SWAP group, it takes its class's waiting place and one
waiting there is discarded. Pulses completed as one byte of result data is the model's choice (assumption 12). -/
def Obligations.IndicatorPulseGiven : Prop :=
  (∀ (e : EntryId) (s : State),
    s.Taken .indicatorPulse e ∧ s.drv.active = none →
    ∃ t, exec (.indicatorPulse e) s = .next t ∧
      t = { s with
        drv.active := some (s.hostGroup e true s.time)
        req.entries := s.req.entries.set e .active
        req.actDisplay := some e })
  ∧
  (∀ (e : EntryId) (a : Group) (s : State),
    s.Taken .indicatorPulse e ∧ s.drv.active = some a ∧ a.cls ≠ .host ∧ s.drv.waitHost = none →
    ∃ t, exec (.indicatorPulse e) s = .next t ∧
      t = { s with
        drv.waitHost := some (s.hostGroup e false 0)
        req.entries := s.req.entries.set e .active
        req.actDisplay := some e })
  ∧
  (∀ (g : Group) (s : State),
    (s.drv.active = none →
        giveGroup g s = { s with drv.active := some { g with completed := 0, phaseOn := true, phaseStart := s.time } })
      ∧ (∀ a, s.drv.active = some a → a.entry = none → g.cls ≠ .host → a.cls = .host ∨ (a.cls = .drop ∧ g.cls = .swap) →
        giveGroup g s = { s with drv.active := some { g with completed := 0, phaseOn := true, phaseStart := s.time } })
      ∧ (∀ a, s.drv.active = some a → a.cls = .swap → g.cls = .swap → (∀ x ∈ s.drv.waitSwap, x.entry = none) →
        giveGroup g s = { s with drv.waitSwap := some g })
      ∧ (∀ a, s.drv.active = some a → a.cls = .swap ∨ a.cls = .drop → g.cls = .drop →
        (∀ x ∈ s.drv.waitDrop, x.entry = none) →
        giveGroup g s = { s with drv.waitDrop := some g }))
  ∧
  (∀ (g a : Group) (e : EntryId) (s : State),
    g.cls = .swap ∨ g.cls = .drop → s.drv.active = some a → a.cls = .host → a.entry = some e →
    s.req.actDisplay = some e → s.link.up = true → s.MemoryLaw →
    (giveGroup g s).drv = { s.drv with active := some { g with completed := 0, phaseOn := true, phaseStart := s.time } }
      ∧ (giveGroup g s).entry e = .done ∧ (giveGroup g s).req.actDisplay = none
      ∧ (giveGroup g s).bytesAt (entryBase e + 4) (resultBytes .displaced 0 (le 1 a.completed)))

/-! ## Requests of the MOTION unit -/

/-- SET_DROP_THRESHOLDS (R121) stores the seven clamped values, and in WATCHING discards a live candidate run.
MOTION_ARM (R122, R123): no code BAD_ARG; on arms a DISARMED unit and changes nothing else; off disarms a WATCHING or
FAULT unit, changes nothing in DISARMED, and in FALLING or SETTLING makes the disarm pending with the request ACTIVE.
Threshold I as two bytes of result data is the model's choice (assumption 12). -/
def Obligations.ThresholdsAndArm : Prop :=
  (∀ (e : EntryId) (s : State),
    s.Taken .setDropThresholds e →
    ∃ t, exec (.setDropThresholds e) s = .next t ∧
      (let v : Thresholds :=
        { f := max 13 (min 125 (s.arg e 0 1)), n := max 8 (min 200 (s.arg e 1 1)), g := min 7 (s.arg e 2 1),
          i := max 250 (min 2047 (s.arg e 4 2)), settle := max 100 (min 1000 (s.arg e 6 2)),
          park := max 100 (min 5000 (s.arg e 8 2)), alert := max 100 (min 5000 (s.arg e 10 2)) }
      let flags := flagBits [decide (v.f ≠ s.arg e 0 1), decide (v.n ≠ s.arg e 1 1), decide (v.g ≠ s.arg e 2 1),
        decide (v.i ≠ s.arg e 4 2), decide (v.settle ≠ s.arg e 6 2), decide (v.park ≠ s.arg e 8 2),
        decide (v.alert ≠ s.arg e 10 2)]
      State.Served { s with
          motion.thresholds := v
          motion.candidate := if s.motion.state = .watching then none else s.motion.candidate }
        t e (if flags = 0 then .ok else .clamped) flags
        (le 1 v.f ++ le 1 v.n ++ le 1 v.g ++ le 2 v.i ++ le 2 v.settle ++ le 2 v.park ++ le 2 v.alert)))
  ∧
  (∀ (e : EntryId) (s : State),
    s.Taken .motionArm e ∧ 1 < s.arg e 0 1 →
    ∃ t, exec (.motionArm e) s = .next t ∧
      State.Served s t e .badArg 0 [])
  ∧
  (∀ (e : EntryId) (s : State),
    s.Taken .motionArm e ∧ s.arg e 0 1 = 1 →
    ∃ t, exec (.motionArm e) s = .next t ∧
      State.Served
        (if s.motion.state = .disarmed then
          { s with motion.state := .watching, motion.candidate := none, motion.missingRun := 0 }.touch .motion
        else s)
        t e .ok 0 [])
  ∧
  (∀ (e : EntryId) (s : State),
    s.Taken .motionArm e ∧ s.arg e 0 1 = 0 ∧ s.motion.state ≠ .falling ∧ s.motion.state ≠ .settling →
    ∃ t, exec (.motionArm e) s = .next t ∧
      State.Served
        (if s.motion.state = .disarmed then s
        else { s with motion.state := .disarmed, motion.candidate := none }.touch .motion)
        t e .ok 0 [])
  ∧
  (∀ (e : EntryId) (s : State),
    s.Taken .motionArm e ∧ s.arg e 0 1 = 0 ∧ (s.motion.state = .falling ∨ s.motion.state = .settling) →
    ∃ t, exec (.motionArm e) s = .next t ∧
      t = { s with motion.disarmPending := true, req.entries := s.req.entries.set e .active, req.actMotion := some e })

/-! ## Requests of the HISTORY unit -/

/-- HISTORY_APPEND_NOTE (R143, R191): a length above 48 finishes BAD_ARG before any byte is read; else the bytes are
copied with the clock and its set flag and the request stays ACTIVE: it waits for a busy array, and on an idle array
with an erased head slot its first try starts. -/
def Obligations.AppendNoteWaitsOrStarts : Prop :=
  (∀ (e : EntryId) (s : State),
    s.Taken .historyAppendNote e ∧ s.hist.fault = none ∧ 48 < s.arg e 0 2 →
    ∃ t, exec (.historyAppendNote e) s = .next t ∧
      State.Served s t e .badArg 0 [])
  ∧
  (∀ (e : EntryId) (s : State),
    s.Taken .historyAppendNote e ∧ s.hist.fault = none ∧ s.arg e 0 2 ≤ 48 ∧ s.hist.op ≠ .idle →
    ∃ t, exec (.historyAppendNote e) s = .next t ∧
      t = { s with
        hist.note := some { record := s.noteRecord e, started := false, entry := some e }
        req.entries := s.req.entries.set e .active
        req.actHistory := some e })
  ∧
  (∀ (e : EntryId) (s : State),
    s.Taken .historyAppendNote e ∧ s.hist.fault = none ∧ s.arg e 0 2 ≤ 48 ∧ s.hist.op = .idle ∧ s.hist.tries = 0
      ∧ slotErased (s.hist.slotBytes s.hist.headSector s.hist.headSlot) = true →
    ∃ t, exec (.historyAppendNote e) s = .next t ∧
      State.Settled ({ s with
        hist.note := some { record := s.noteRecord e, started := true, entry := some e }
        hist.nextSeq := s.hist.nextSeq + 1
        hist.op := .program s.hist.headSector s.hist.headSlot s.hist.nextSeq
          (recordImage (s.noteRecord e) s.hist.nextSeq false)
        req.entries := s.req.entries.set e .active
        req.actHistory := some e }.touch .part) t)

/-- HISTORY_PROTECT (R138): outside 8..63 BAD_ARG, above the present boundary PROTECTED, equal OK with no change;
below it waits for a busy array or starts its boundary step on an idle one, and the request stays ACTIVE. That a
request equal to the present boundary gives zero result data is the model's choice (assumption 12). -/
def Obligations.ProtectWaitsOrSteps : Prop :=
  (∀ (e : EntryId) (s : State),
    s.Taken .historyProtect e ∧ s.hist.fault = none ∧ (s.arg e 0 1 < 8 ∨ 63 < s.arg e 0 1) →
    ∃ t, exec (.historyProtect e) s = .next t ∧
      State.Served s t e .badArg 0 [])
  ∧
  (∀ (e : EntryId) (s : State),
    s.Taken .historyProtect e ∧ s.hist.fault = none ∧ 8 ≤ s.arg e 0 1 ∧ s.arg e 0 1 ≤ 63
      ∧ s.hist.boundary ≤ s.arg e 0 1 →
    ∃ t, exec (.historyProtect e) s = .next t ∧
      State.Served s t e (if s.arg e 0 1 = s.hist.boundary then .ok else .isProtected) 0 [])
  ∧
  (∀ (e : EntryId) (s : State),
    s.Taken .historyProtect e ∧ s.hist.fault = none ∧ 8 ≤ s.arg e 0 1 ∧ s.arg e 0 1 ≤ 63
      ∧ s.arg e 0 1 < s.hist.boundary →
    ∃ t, exec (.historyProtect e) s = .next t ∧
      t = { s with
        hist.protect := some { target := s.arg e 0 1, started := decide (s.hist.op = .idle), entry := some e }
        hist.op := if s.hist.op = .idle then .boundary (s.arg e 0 1) 1 s.hist.boundary else s.hist.op
        req.entries := s.req.entries.set e .active
        req.actHistory := some e })

/-- HISTORY_MAP (R142, R159): a sector 0..63 is mapped into the window, OFF removes the mapping, any other value
finishes BAD_ARG with the mapping as it was; while a sector is mapped a host reads its bytes in the window. In FAULT
(R141) every HISTORY request finishes FAULT in the event it becomes ACTIVE, with no other effect. The present mapping
as the result data of BAD_ARG is the model's choice (assumption 12). -/
def Obligations.HistoryMapAndFault : Prop :=
  (∀ (e : EntryId) (s : State),
    s.Taken .historyMap e ∧ s.hist.fault = none ∧ s.arg e 0 1 < 64 →
    ∃ t, exec (.historyMap e) s = .next t ∧
      (State.Served
        (if s.hist.mapped = some (s.arg e 0 1) then s
        else { s with hist.mapped := some (s.arg e 0 1) }.touch .part)
        t e .ok 0 (le 1 (s.arg e 0 1))
      ∧ (s.arg e 0 1 < 63 → ∀ k, k < 2048 →
          t.hostByte (0x1800 + k) = s.hist.byte (2048 * s.arg e 0 1 + k))))
  ∧
  (∀ (e : EntryId) (s : State),
    s.Taken .historyMap e ∧ s.hist.fault = none ∧ s.arg e 0 1 = 0xFF →
    ∃ t, exec (.historyMap e) s = .next t ∧
      (State.Served (if s.hist.mapped = none then s else { s with hist.mapped := none }.touch .part) t e .ok 0 [0xFF]
      ∧ (∀ k, k < 2048 → t.hostByte (0x1800 + k) = s.xread (0x1800 + k))))
  ∧
  (∀ (e : EntryId) (s : State),
    s.Taken .historyMap e ∧ s.hist.fault = none ∧ 64 ≤ s.arg e 0 1 ∧ s.arg e 0 1 ≠ 0xFF →
    ∃ t, exec (.historyMap e) s = .next t ∧
      State.Served s t e .badArg 0 (le 1 (s.hist.mapped.getD 0xFF)))
  ∧
  (∀ (e : EntryId) (s : State),
    s.Taken .historyAppendNote e ∧ s.hist.fault.isSome = true →
    ∃ t, exec (.historyAppendNote e) s = .next t ∧
      State.Served s t e .fault 0 [])
  ∧
  (∀ (e : EntryId) (s : State),
    s.Taken .historyMap e ∧ s.hist.fault.isSome = true →
    ∃ t, exec (.historyMap e) s = .next t ∧
      State.Served s t e .fault 0 [])
  ∧
  (∀ (e : EntryId) (s : State),
    s.Taken .historyProtect e ∧ s.hist.fault.isSome = true →
    ∃ t, exec (.historyProtect e) s = .next t ∧
      State.Served s t e .fault 0 [])
  ∧
  (∀ (e : EntryId) (s : State),
    s.Taken .historyLocate e ∧ s.hist.fault.isSome = true →
    ∃ t, exec (.historyLocate e) s = .next t ∧
      State.Served s t e .fault 0 [])

/-- HISTORY_LOCATE (R145) changes nothing, and its result gives the sector and slot it found, or NOT_FOUND, with the
head, the oldest sequence number below the boundary and the next one; what `History.locate` answers is a VALID record
of that sequence number, and none is left unfound. Sector and slot 0xFF with nothing found are the model's choice
(assumption 13). -/
def Obligations.LocateFindsRecord : Prop :=
  (∀ (e : EntryId) (s : State),
    s.Taken .historyLocate e ∧ s.hist.fault = none →
    ∃ t, exec (.historyLocate e) s = .next t ∧
      State.Served s t e (if (s.hist.locate (s.arg e 0 4)).isSome then .ok else .notFound) 0
        ([BitVec.ofNat 8 ((s.hist.locate (s.arg e 0 4)).getD (0xFF, 0xFF)).1,
            BitVec.ofNat 8 ((s.hist.locate (s.arg e 0 4)).getD (0xFF, 0xFF)).2]
          ++ le 1 s.hist.headSector ++ le 1 s.hist.headSlot
          ++ le 4 (lowestSeq (s.hist.valid.filter (fun x => decide (x.1 < s.hist.boundary)))) ++ le 4 s.hist.nextSeq))
  ∧
  (∀ (h : History) (q sector slot : Nat),
    memWf arrayDefault h.array = true → h.locate q = some (sector, slot) →
    q ≠ 0 ∧ sector < 63 ∧ slot < 32 ∧ slotValid (h.slotBytes sector slot) = true
      ∧ slotSeq (h.slotBytes sector slot) = q)
  ∧
  (∀ (h : History) (q sector slot : Nat),
    memWf arrayDefault h.array = true → h.locate q = none → q ≠ 0 → sector < 63 → slot < 32 →
    slotValid (h.slotBytes sector slot) = true → slotSeq (h.slotBytes sector slot) ≠ q)

/-! ## Pins, contacts, latches, system state -/

/-- RAW_CONTACT_CHANGE and SYSRUN_LINE_CHANGE (R2, R28): a raw level that differs from the accepted one starts a
candidate or lets it run on, one that equals it discards the candidate; a decoded system state that differs from the
accepted one starts its 8 ms hold, or lets it run on while the lines still say the same. With the supply down only the
level stands (the model's choice, assumption 17). That the hold is judged on the decoded state, so that a move between
two codes of OFF does not restart it, is the model's choice (assumption 18). -/
def Obligations.PinsStartCandidates : Prop :=
  (∀ (b : BayId) (level : Bool) (s : State),
    s.Live →
    ∃ t, exec (.rawContactChange (.present b) level) s = .next t ∧
      t = s.setBay b { s.bay b with present := (s.bay b).present.seen level s.time })
  ∧
  (∀ (b : BayId) (level : Bool) (s : State),
    s.Live →
    ∃ t, exec (.rawContactChange (.latch b) level) s = .next t ∧
      t = s.setBay b { s.bay b with latch := (s.bay b).latch.seen level s.time })
  ∧
  (∀ (level : Bool) (s : State),
    s.Live →
    ∃ t, exec (.rawContactChange .chgDone level) s = .next t ∧
      t = { s with src.chgDone := s.src.chgDone.seen level s.time })
  ∧
  (∀ (l : SysrunLines) (s : State),
    s.Live →
    ∃ t, exec (.sysrunLineChange l) s = .next t ∧
      t = { s with
        src.sysLines := l
        src.sysCand :=
          if sysOfLines l = s.src.sysState then none
          else if sysOfLines l = sysOfLines s.src.sysLines then some (s.src.sysCand.getD s.time)
          else some s.time })
  ∧
  (∀ (b : BayId) (level : Bool) (s : State),
    s.powered = false →
    ∃ t, exec (.rawContactChange (.present b) level) s = .next t ∧
      (t.powered = false ∧ t.pins = (if b = .bayA then { s.pins with presentA := level } else { s.pins with presentB := level })
        ∧ t.pending = s.pending ∧ t.hist.array = s.hist.array ∧ t.hist.marks = s.hist.marks))
  ∧
  (∀ (b : BayId) (level : Bool) (s : State),
    s.powered = false →
    ∃ t, exec (.rawContactChange (.latch b) level) s = .next t ∧
      (t.powered = false ∧ t.pins = (if b = .bayA then { s.pins with latchA := level } else { s.pins with latchB := level })
        ∧ t.pending = s.pending ∧ t.hist.array = s.hist.array ∧ t.hist.marks = s.hist.marks))
  ∧
  (∀ (level : Bool) (s : State),
    s.powered = false →
    ∃ t, exec (.rawContactChange .chgDone level) s = .next t ∧
      (t.powered = false ∧ t.pins = { s.pins with chgDone := level } ∧ t.pending = s.pending
        ∧ t.hist.array = s.hist.array ∧ t.hist.marks = s.hist.marks))
  ∧
  (∀ (l : SysrunLines) (s : State),
    s.powered = false →
    ∃ t, exec (.sysrunLineChange l) s = .next t ∧
      (t.powered = false ∧ t.pins = { s.pins with lines := l } ∧ t.pending = s.pending
        ∧ t.hist.array = s.hist.array ∧ t.hist.marks = s.hist.marks))

/-- PRESENT_ACCEPTED (R2, R3, R6, R7, R24, R26): nothing before the window has passed; a pack that arrives in an EMPTY
bay makes it SEATED or, with the latch closed, QUALIFYING, and raises BAY_SEATED; one that leaves, while the bay does
not feed or another source is there, makes it EMPTY outside a hold, with its record and BAY_REMOVED, and no record
from FAULT, and HELD under one. A pack that returns to a HELD bay stops its held time and brings back the state its
prior state gives, but waits where that takes a voltage in range and there is none. Selection and charge selection run
after a loss and after a return. That a forced change takes a returned bay under the hold is the model's choice
(assumption 38). -/
def Obligations.PresenceMovesBay : Prop :=
  (∀ (b : BayId) (s : State),
    s.Live ∧ ¬(s.bay b).present.Held s.time s.setup.debounce →
    ∃ t, exec (.presentAccepted b) s = .next t ∧
      t = s)
  ∧
  (∀ (b : BayId) (s : State),
    s.Live ∧ (s.bay b).present.Held s.time s.setup.debounce ∧ (s.bay b).present.raw = true ∧ (s.bay b).state = .empty →
    ∃ t, exec (.presentAccepted b) s = .next t ∧
      State.Settled
        (raise .baySeated
          (le 1 b.code ++ [if (s.bay b).latch.acc then 2 else 1] ++ [if (s.bay b).latch.acc then 1 else 0]
            ++ le 2 (s.bay b).mv)
          ((s.setBay b { s.bay b with
            present := (s.bay b).present.taken, prior := none, priorRel := none,
            state := if (s.bay b).latch.acc then .qualifying else .seated,
            qualStart := if (s.bay b).latch.acc then s.time else (s.bay b).qualStart,
            clean := if (s.bay b).latch.acc then true else (s.bay b).clean }).touch .power)) t)
  ∧
  (∀ (b : BayId) (s : State),
    s.Live ∧ (s.bay b).present.Held s.time s.setup.debounce ∧ (s.bay b).present.raw = false ∧ s.src.hold = false
      ∧ (s.bay b).state ≠ .empty ∧ (s.bay b).state ≠ .held ∧ s.losable b ∧ s.Room 1 →
    ∃ t, exec (.presentAccepted b) s = .next t ∧
      (let u := selectCharge (runSelection (s.emptied b))
      let record := s.removalRecord b u.src.power
      State.Settled
        (raise .bayRemoved
          (le 1 b.code ++ le 1 (s.bay b).state.code ++ [0]
            ++ [if (s.bay b).state = .fault then 0xFF else BitVec.ofNat 8 record.kind.code])
          (if (s.bay b).state = .fault then u else { u with hist.list := s.hist.list ++ [record] })) t))
  ∧
  (∀ (b : BayId) (s : State),
    s.Live ∧ (s.bay b).present.Held s.time s.setup.debounce ∧ (s.bay b).present.raw = false ∧ s.src.hold = true
      ∧ (s.bay b).state ≠ .empty ∧ (s.bay b).state ≠ .held ∧ s.losable b →
    ∃ t, exec (.presentAccepted b) s = .next t ∧
      (let u := (s.setBay b { s.bay b with
        present := (s.bay b).present.taken, state := .held, prior := some (s.bay b).state,
        priorRel := if (s.bay b).state = .releasing then (s.bay b).prior else none,
        strandedAtLoss := decide ((s.bay b).state = .feeding ∧ (s.bay b).latchOpen = true),
        clean := false, chargeSel := false, latchOpen := false, heldSince := some s.time,
        outcome := some .removed }).touch .power
      State.Settled (selectCharge (runSelection { u with
        src.interrupted := if b ∈ s.src.interrupted then s.src.interrupted else s.src.interrupted ++ [b] })) t))
  ∧
  (∀ (b : BayId) (s : State),
    s.Live ∧ (s.bay b).present.Held s.time s.setup.debounce ∧ (s.bay b).present.raw = true ∧ s.src.hold = true
      ∧ (s.bay b).state = .held ∧ ((s.bay b).heldDest = .ready ∨ (s.bay b).heldDest = .swapPrepared)
      ∧ ((s.bay b).mv < 9000 ∨ 13000 < (s.bay b).mv) →
    ∃ t, exec (.presentAccepted b) s = .next t ∧
      t = s.setBay b { s.bay b with present := (s.bay b).present.taken })
  ∧
  (∀ (b : BayId) (s : State),
    s.Live ∧ (s.bay b).present.Held s.time s.setup.debounce ∧ (s.bay b).present.raw = true ∧ s.src.hold = true
      ∧ (s.bay b).state = .held ∧ s.src.feeding ≠ b.feed ∧ s.Fed
      ∧ ((s.bay b).heldDest = .seated ∨ (s.bay b).heldDest = .fault
        ∨ (9000 ≤ (s.bay b).mv ∧ (s.bay b).mv ≤ 13000)) →
    ∃ t, exec (.presentAccepted b) s = .next t ∧
      State.Settled (selectCharge (runSelection ((s.setBay b { s.bay b with
        present := (s.bay b).present.taken, state := (s.bay b).heldDest, prior := none, priorRel := none,
        heldMs := (s.bay b).heldUntil s.time, heldSince := none, outcome := some .returned,
        depleted := (s.bay b).depleted
          || decide ((s.bay b).heldDest = .ready ∧ (s.bay b).monitor = .tripped) }).touch .power))) t)

/-- PRESENT_ACCEPTED as the last source is pulled (R6, R18, R24, R44, R48, R188): the feeding set is empty, the power
state EXHAUSTED with its latch, the ceiling and the level 0 and SHUTDOWN_REQ# asserted. Outside a hold the bay is
EMPTY, and the UNPLANNED record of the pull joins the list before the HOLDUP record of the exhaustion, cause
SOURCE_LOST. Under a hold the bay is HELD with prior state FEEDING, its gauge record stays, and the HOLDUP record
alone joins the list. -/
def Obligations.LastSourcePulled : Prop :=
  (∀ (b : BayId) (s : State),
    s.Live ∧ (s.bay b).present.Held s.time s.setup.debounce ∧ (s.bay b).present.raw = false ∧ s.src.hold = false
      ∧ (s.bay b).state = .feeding ∧ s.src.feeding = b.feed ∧ s.src.power = .pack ∧ s.src.exhLatch = false
      ∧ s.src.dcPresent = false ∧ ¬(s.bay b.other).isEligible ∧ ¬(s.bay b.other).mayReengage
      ∧ (s.src.bridgeMonitor = .low ∨ s.src.cutoff = true) ∧ s.Room 2 →
    ∃ t, exec (.presentAccepted b) s = .next t ∧
      ((t.bay b).state = .empty ∧ (t.bay b).prior = none ∧ (t.bay b).chargeSel = false ∧ (t.bay b).depleted = false
      ∧ (t.bay b).latchOpen = false ∧ t.gaugeRec b = none ∧ t.src.feeding = .empty ∧ t.src.power = .exhausted
      ∧ t.src.exhLatch = true ∧ t.src.rideTimer = none ∧ t.shutdownRequested = true ∧ t.bright.ceiling = 0
      ∧ t.bright.current = 0 ∧ t.gauge.window = []
      ∧ t.hist.list = s.hist.list ++ [s.removalRecord b .exhausted,
          s.holdupRecord .sourceLost .pack 0 (if b = .bayA then 0 else s.remainingMah .bayA)
            (if b = .bayB then 0 else s.remainingMah .bayB)]
      ∧ (t.notices[2]).fresh = true ∧ (t.notices[8]).fresh = true
      ∧ t = { s with
          src := t.src, gauge := t.gauge, bright := t.bright, drv := t.drv, hist.list := t.hist.list,
          notices := t.notices, link := { s.link with memory := t.link.memory, attn := t.link.attn },
          pages := t.pages }
      ∧ (∀ a, a < 0x2000 → pageByte a = false → t.xread a = s.xread a)))
  ∧
  (∀ (b : BayId) (s : State),
    s.Live ∧ (s.bay b).present.Held s.time s.setup.debounce ∧ (s.bay b).present.raw = false ∧ s.src.hold = true
      ∧ (s.bay b).state = .feeding ∧ s.src.feeding = b.feed ∧ s.src.power = .pack ∧ s.src.exhLatch = false
      ∧ s.src.dcPresent = false ∧ ¬(s.bay b.other).isEligible ∧ ¬(s.bay b.other).mayReengage
      ∧ (s.src.bridgeMonitor = .low ∨ s.src.cutoff = true) ∧ s.Room 1 →
    ∃ t, exec (.presentAccepted b) s = .next t ∧
      ((t.bay b).state = .held ∧ (t.bay b).prior = some .feeding ∧ (t.bay b).chargeSel = false
      ∧ (t.bay b).strandedAtLoss = (s.bay b).latchOpen ∧ (t.bay b).latchOpen = false
      ∧ (t.bay b).outcome = some .removed ∧ (t.bay b).heldSince = some s.time
      ∧ t.src.interrupted = (if b ∈ s.src.interrupted then s.src.interrupted else s.src.interrupted ++ [b])
      ∧ t.gauge = { s.gauge with window := [], secSum := 0, secCount := 0 } ∧ t.src.feeding = .empty
      ∧ t.src.power = .exhausted ∧ t.src.exhLatch = true ∧ t.src.rideTimer = none ∧ t.shutdownRequested = true
      ∧ t.bright.ceiling = 0 ∧ t.bright.current = 0
      ∧ t.hist.list = s.hist.list ++ [s.holdupRecord .sourceLost .pack 0 (s.remainingMah .bayA) (s.remainingMah .bayB)]
      ∧ (t.notices[8]).fresh = true ∧ t.notices[2] = s.notices[2]
      ∧ t = { s with
          src := t.src, gauge := t.gauge, bright := t.bright, drv := t.drv, hist.list := t.hist.list,
          notices := t.notices, link := { s.link with memory := t.link.memory, attn := t.link.attn },
          pages := t.pages }
      ∧ (∀ a, a < 0x2000 → pageByte a = false → t.xread a = s.xread a)))

/-- LATCH_ACCEPTED (R2, R3, R5, R25, R35, R39): the latch note of a pending preparation of the bay follows the
accepted level. Under a hold nothing more happens; that the note follows under a hold, and while a forced change has
left the bay READY, is the model's choice (assumption 20). Outside one a SEATED bay whose latch closes starts a
qualification, a QUALIFYING bay whose latch opens is SEATED, a READY or SWAP_PREPARED bay whose latch opens is
RELEASING with that prior state, a RELEASING bay whose latch closes returns to it, a stranded bay whose latch closes
clears its latch-open flag and selection runs, and the others, with a FEEDING or READY bay of a pending preparation,
take the level alone. -/
def Obligations.LatchMovesBay : Prop :=
  (∀ (b : BayId) (s : State),
    s.Live ∧ ¬(s.bay b).latch.Held s.time s.setup.debounce →
    ∃ t, exec (.latchAccepted b) s = .next t ∧
      t = s)
  ∧
  (∀ (b : BayId) (s : State),
    s.Live ∧ (s.bay b).latch.Held s.time s.setup.debounce
      ∧ (s.src.hold = true
        ∨ (s.Prepares b ∧ ((s.bay b).state = .feeding ∨ (s.bay b).state = .ready))
        ∨ (s.bay b).state = .empty ∨ (s.bay b).state = .held ∨ (s.bay b).state = .fault
        ∨ ((s.bay b).latch.raw = false ∧ ((s.bay b).state = .seated ∨ (s.bay b).state = .releasing))
        ∨ ((s.bay b).latch.raw = true ∧ ((s.bay b).state = .qualifying ∨ (s.bay b).state = .ready
          ∨ (s.bay b).state = .swapPrepared ∨ ((s.bay b).state = .feeding ∧ (s.bay b).latchOpen = false)))) →
    ∃ t, exec (.latchAccepted b) s = .next t ∧
      t = s.latchTaken b)
  ∧
  (∀ (b : BayId) (s : State),
    s.Live ∧ (s.bay b).latch.Held s.time s.setup.debounce ∧ s.src.hold = false ∧ (s.bay b).state = .seated
      ∧ (s.bay b).latch.raw = true →
    ∃ t, exec (.latchAccepted b) s = .next t ∧
      (let u := s.latchTaken b
      State.Settled ((u.setBay b { u.bay b with
        state := .qualifying, prior := none, priorRel := none, qualStart := s.time, clean := true }).touch .power) t))
  ∧
  (∀ (b : BayId) (s : State),
    s.Live ∧ (s.bay b).latch.Held s.time s.setup.debounce ∧ s.src.hold = false ∧ (s.bay b).state = .qualifying
      ∧ (s.bay b).latch.raw = false →
    ∃ t, exec (.latchAccepted b) s = .next t ∧
      (let u := s.latchTaken b
      State.Settled ((u.setBay b { u.bay b with state := .seated, prior := none, priorRel := none }).touch .power) t))
  ∧
  (∀ (b : BayId) (s : State),
    s.Live ∧ (s.bay b).latch.Held s.time s.setup.debounce ∧ s.src.hold = false ∧ (s.bay b).latch.raw = false
      ∧ (((s.bay b).state = .ready ∧ ¬s.Prepares b) ∨ (s.bay b).state = .swapPrepared) ∧ s.src.feeding ≠ b.feed
      ∧ s.Fed →
    ∃ t, exec (.latchAccepted b) s = .next t ∧
      (let u := s.latchTaken b
      State.Settled (selectCharge (runSelection ((u.setBay b { u.bay b with
        state := .releasing, prior := some (s.bay b).state, priorRel := none, chargeSel := false }).touch .power))) t))
  ∧
  (∀ (b : BayId) (s : State),
    s.Live ∧ (s.bay b).latch.Held s.time s.setup.debounce ∧ s.src.hold = false ∧ (s.bay b).latch.raw = true
      ∧ (s.bay b).state = .releasing ∧ ((s.bay b).prior = some .ready ∨ (s.bay b).prior = some .swapPrepared)
      ∧ s.Fed →
    ∃ t, exec (.latchAccepted b) s = .next t ∧
      (let u := s.latchTaken b
      State.Settled (selectCharge (runSelection ((u.setBay b { u.bay b with
        state := (s.bay b).prior.getD .ready, prior := none, priorRel := none,
        depleted := (s.bay b).depleted
          || decide ((s.bay b).prior = some .ready ∧ (s.bay b).monitor = .tripped) }).touch .power))) t))
  ∧
  (∀ (b : BayId) (s : State),
    s.Live ∧ (s.bay b).latch.Held s.time s.setup.debounce ∧ s.src.hold = false ∧ (s.bay b).latch.raw = true
      ∧ (s.bay b).state = .feeding ∧ (s.bay b).latchOpen = true ∧ s.src.feeding = b.feed ∧ ¬s.Prepares b
      ∧ (s.bay b).depleted = false →
    ∃ t, exec (.latchAccepted b) s = .next t ∧
      (let u := s.latchTaken b
      State.Settled (runSelection ((u.setBay b { u.bay b with latchOpen := false }).touch .power)) t))

/-- LATCH_ACCEPTED of a FEEDING bay whose latch opens outside a hold, with no preparation of it pending (R16, R38,
R39, R40, R46, R47): with DC, the other eligible pack or the bridge as its target the load moves to it, and with none
of these but the other bay to re-engage that bay takes it; the bay is then RELEASING with prior state READY. A move to
the bridge begins a ride-through. With no source at all the bay keeps the load, stranded, and SHUTDOWN_REQ# is
asserted. UNPLANNED_RELEASE names the bay, the outcome and the source now feeding. -/
def Obligations.UnplannedReleaseMovesOrStrands : Prop :=
  (∀ (b : BayId) (s : State),
    s.Live ∧ (s.bay b).latch.Held s.time s.setup.debounce ∧ s.src.hold = false ∧ (s.bay b).latch.raw = false
      ∧ (s.bay b).state = .feeding ∧ s.src.feeding = b.feed ∧ (s.bay b).latchOpen = false ∧ ¬s.Prepares b
      ∧ s.src.dcPresent = false ∧ ¬(s.bay b.other).isEligible
      ∧ ¬(s.bay b.other).mayReengage
      ∧ (s.src.bridgeMonitor = .low ∨ s.src.cutoff = true ∨ s.src.exhLatch = true) →
    ∃ t, exec (.latchAccepted b) s = .next t ∧
      (State.Settled (raise .unplannedRelease (le 1 b.code ++ [1] ++ le 1 b.feed.code)
        ((s.setBay b { s.bay b with latch := (s.bay b).latch.taken, latchOpen := true }).touch .power)) t
      ∧ t.shutdownRequested = true))
  ∧
  (∀ (b : BayId) (s : State),
    s.Live ∧ (s.bay b).latch.Held s.time s.setup.debounce ∧ s.src.hold = false ∧ (s.bay b).latch.raw = false
      ∧ (s.bay b).state = .feeding ∧ s.src.feeding = b.feed ∧ (s.bay b).latchOpen = false ∧ ¬s.Prepares b
      ∧ s.src.dcPresent = false ∧ (s.bay b.other).isEligible
      ∧ s.src.exhLatch = false →
    ∃ t, exec (.latchAccepted b) s = .next t ∧
      (t.src.feeding = b.other.feed ∧ (t.bay b).state = .releasing ∧ (t.bay b).prior = some .ready
      ∧ (t.bay b).latchOpen = false ∧ (t.bay b.other).state = .feeding ∧ t.src.power = .pack
      ∧ t.gauge = { s.gauge with window := [], secSum := 0, secCount := 0 } ∧ t.src.rideTimer = none
      ∧ (t.notices[4]).payload = [BitVec.ofNat 8 b.code, 0, BitVec.ofNat 8 b.other.feed.code, 0, 0, 0, 0, 0]
      ∧ t = { s with
          src := t.src, gauge := t.gauge, bright := t.bright, drv := t.drv, notices := t.notices,
          link := { s.link with memory := t.link.memory, attn := t.link.attn }, pages := t.pages }
      ∧ (∀ a, a < 0x2000 → pageByte a = false → t.xread a = s.xread a)))
  ∧
  (∀ (b : BayId) (s : State),
    s.Live ∧ (s.bay b).latch.Held s.time s.setup.debounce ∧ s.src.hold = false ∧ (s.bay b).latch.raw = false
      ∧ (s.bay b).state = .feeding ∧ s.src.feeding = b.feed ∧ (s.bay b).latchOpen = false ∧ ¬s.Prepares b
      ∧ s.src.dcPresent = true →
    ∃ t, exec (.latchAccepted b) s = .next t ∧
      (t.src.feeding = .dc ∧ t.src.power = .dc ∧ t.src.exhLatch = false ∧ t.src.rideTimer = none
      ∧ (t.bay b).state = .releasing ∧ (t.bay b).prior = some .ready ∧ (t.bay b).latchOpen = false
      ∧ (t.bay b).chargeSel = false ∧ (t.bay b.other).state = (s.bay b.other).state
      ∧ t.gauge = { s.gauge with window := [], secSum := 0, secCount := 0 }
      ∧ (t.notices[4]).payload = [BitVec.ofNat 8 b.code, 0, BitVec.ofNat 8 Feed.dc.code, 0, 0, 0, 0, 0]
      ∧ t = { s with
          src := t.src, gauge := t.gauge, bright := t.bright, drv := t.drv, notices := t.notices,
          link := { s.link with memory := t.link.memory, attn := t.link.attn }, pages := t.pages }
      ∧ (∀ a, a < 0x2000 → pageByte a = false → t.xread a = s.xread a)))
  ∧
  (∀ (b : BayId) (s : State),
    s.Live ∧ (s.bay b).latch.Held s.time s.setup.debounce ∧ s.src.hold = false ∧ (s.bay b).latch.raw = false
      ∧ (s.bay b).state = .feeding ∧ s.src.feeding = b.feed ∧ (s.bay b).latchOpen = false ∧ ¬s.Prepares b
      ∧ s.src.dcPresent = false ∧ ¬(s.bay b.other).isEligible ∧ s.src.bridgeMonitor ≠ .low
      ∧ s.src.cutoff = false ∧ s.src.exhLatch = false →
    ∃ t, exec (.latchAccepted b) s = .next t ∧
      (t.src.feeding = .bridge ∧ t.src.power = .bridge ∧ t.src.brChg = false
      ∧ t.src.rideTimer = some { start := s.time, len := 1000 * s.setup.rideLimit }
      ∧ t.bright.ceiling = s.bright.bridgeCeil ∧ t.bright.current ≤ s.bright.bridgeCeil
      ∧ (t.bay b).state = .releasing ∧ (t.bay b).prior = some .ready ∧ (t.bay b).latchOpen = false
      ∧ (t.bay b.other).state = (s.bay b.other).state
      ∧ t.gauge = { s.gauge with window := [], secSum := 0, secCount := 0 }
      ∧ (t.notices[4]).payload = [BitVec.ofNat 8 b.code, 0, BitVec.ofNat 8 Feed.bridge.code, 0, 0, 0, 0, 0]
      ∧ (t.notices[6]).payload = le 1 s.src.power.code ++ le 2 s.setup.rideLimit ++ le 2 s.src.bridgeMv ++ [0, 0, 0]
      ∧ t = { s with
          src := t.src, gauge := t.gauge, bright := t.bright, drv := t.drv, notices := t.notices,
          link := { s.link with memory := t.link.memory, attn := t.link.attn }, pages := t.pages }
      ∧ (∀ a, a < 0x2000 → pageByte a = false → t.xread a = s.xread a)))
  ∧
  (∀ (b : BayId) (s : State),
    s.Live ∧ (s.bay b).latch.Held s.time s.setup.debounce ∧ s.src.hold = false ∧ (s.bay b).latch.raw = false
      ∧ (s.bay b).state = .feeding ∧ s.src.feeding = b.feed ∧ (s.bay b).latchOpen = false ∧ ¬s.Prepares b
      ∧ s.src.dcPresent = false ∧ (s.bay b.other).mayReengage
      ∧ (s.src.bridgeMonitor = .low ∨ s.src.cutoff = true ∨ s.src.exhLatch = true) →
    ∃ t, exec (.latchAccepted b) s = .next t ∧
      (t.src.feeding = b.other.feed ∧ t.src.power = .pack ∧ t.src.exhLatch = false ∧ t.src.rideTimer = none
      ∧ (t.bay b.other).state = .feeding ∧ (t.bay b.other).prepTimer = none
      ∧ (t.bay b).state = .releasing ∧ (t.bay b).prior = some .ready ∧ (t.bay b).latchOpen = false
      ∧ t.gauge = { s.gauge with window := [], secSum := 0, secCount := 0 }
      ∧ (t.notices[4]).payload = [BitVec.ofNat 8 b.code, 0, BitVec.ofNat 8 b.other.feed.code, 0, 0, 0, 0, 0]
      ∧ (t.notices[5]).payload = le 1 b.other.code ++ [1] ++ le 1 BayState.feeding.code ++ [0, 0, 0, 0, 0]
      ∧ t = { s with
          src := t.src, gauge := t.gauge, bright := t.bright, drv := t.drv, notices := t.notices,
          link := { s.link with memory := t.link.memory, attn := t.link.attn }, pages := t.pages }
      ∧ (∀ a, a < 0x2000 → pageByte a = false → t.xread a = s.xread a)))

/-- CHG_DONE_ACCEPTED (R21, R57): done with a bay selected sets its record to full, with sub and D 0 and the learn
flag set, hands a changed SoC on, raises CHARGE_DONE with the correction, turns its charge select off and runs charge
selection; done with no bay selected, and a change back, take the level alone. Charge selection (R20) turns both
selects off without DC, keeps the bay that has it, and else chooses the READY bay of lowest SoC below 100, ties to A,
or none, with the power page due where a select changes (R185). The order of the SoC event's hand-overs is the model's
choice (assumption 35). -/
def Obligations.EndOfCharge : Prop :=
  (∀ (s : State),
    s.Live ∧ ¬s.src.chgDone.Held s.time s.setup.debounce →
    ∃ t, exec .chgDoneAccepted s = .next t ∧
      t = s)
  ∧
  (∀ (s : State),
    s.Live ∧ s.src.chgDone.Held s.time s.setup.debounce
      ∧ (s.src.chgDone.raw = false ∨ (s.src.bayA.chargeSel = false ∧ s.src.bayB.chargeSel = false)) →
    ∃ t, exec .chgDoneAccepted s = .next t ∧
      t = { s with src.chgDone := s.src.chgDone.taken })
  ∧
  (∀ (b : BayId) (r : GaugeRec) (s : State),
    s.Live ∧ s.src.chgDone.Held s.time s.setup.debounce ∧ s.src.chgDone.raw = true
      ∧ b = (if s.src.bayA.chargeSel then BayId.bayA else .bayB) ∧ (s.bay b).chargeSel = true
      ∧ s.gaugeRec b = some r ∧ s.Fed →
    ∃ t, exec .chgDoneAccepted s = .next t ∧
      (let r' := { r with remaining := r.full, sub := 0, drawn := 0, learn := true, soc := r.full * 100 / r.full }
      let u := ({ s with src.chgDone := s.src.chgDone.taken }).setGaugeRec b (some r')
      State.Settled (selectCharge (setCharge b false
        (raise .chargeDone (le 1 b.code ++ le 2 (r.full / 3600) ++ le 2 ((r.full - r.remaining) / 3600))
          (if r'.soc = r.soc then u else socEvent b u)))) t))
  ∧
  (∀ (s : State),
    selectCharge s = { s with
      src.bayA := { s.src.bayA with chargeSel := s.chargeAfter .bayA }
      src.bayB := { s.src.bayB with chargeSel := s.chargeAfter .bayB }
      pages.power.cause := s.pages.power.cause || decide (s.chargeAfter .bayA ≠ s.src.bayA.chargeSel)
        || decide (s.chargeAfter .bayB ≠ s.src.bayB.chargeSel) })

/-- SYSRUN_CHANGE (R28, R84, R89): a decoded state that has held for 8 ms is accepted and published; leaving RUN the
level and the compare are 0 and the backlight is DARK, with an evaluation; entering RUN an evaluation runs; between
STANDBY and OFF nothing more happens. That the hold is judged on the decoded state is the model's choice (assumption
18); that a change between STANDBY and OFF runs no evaluation and updates no display page is DEDUCED (assumption 26).
-/
def Obligations.SystemStateAccepted : Prop :=
  (∀ (s : State),
    s.Live ∧ s.src.sysCand.all (fun c => decide ((s.time - c).toNat < 8)) = true →
    ∃ t, exec .sysrunChange s = .next t ∧
      t = s)
  ∧
  (∀ (s : State),
    s.Live ∧ s.src.sysCand.any (fun c => decide (8 ≤ (s.time - c).toNat)) = true
      ∧ s.src.sysState = .run ∧ sysOfLines s.src.sysLines ≠ .run →
    ∃ t, exec .sysrunChange s = .next t ∧
      (State.Settled (evaluate false ({ s with
        src.sysState := sysOfLines s.src.sysLines, src.sysCand := none, bright.current := 0,
        drv.sys := sysOfLines s.src.sysLines, drv.state := .dark, drv.activeCompare := 0 }.touch .power)) t
      ∧ t.bright.current = 0 ∧ t.drv.state = .dark ∧ t.blEn = false))
  ∧
  (∀ (s : State),
    s.Live ∧ s.src.sysCand.any (fun c => decide (8 ≤ (s.time - c).toNat)) = true ∧ s.LevelLaw ∧ s.CompareLaw
      ∧ s.src.sysState ≠ .run →
    ∃ t, exec .sysrunChange s = .next t ∧
      (let u := { s with
        src.sysState := sysOfLines s.src.sysLines, src.sysCand := none, drv.sys := sysOfLines s.src.sysLines,
        drv.state := .dark, drv.activeCompare := 0 }.touch .power
      State.Settled (if sysOfLines s.src.sysLines = .run then evaluate false u else u) t ∧ t.bright.current = 0))

/-! ## Power rounds -/

/-- POWER_ROUND, the gauge (R52, R53, R54, R58, R59, R62): every record whose bay is READY, FEEDING, SWAP_PREPARED or
RELEASING counts its sample of 4 mA a code: sub, the truncated transfer, remaining clamped into 0..full, the
discharged total, the learn flag, the SoC and the saturation count; the residual and full stay. In a round that trips
the bay's pack monitor the record as counted takes the empty trip: the residual, remaining and sub 0, SoC 0; with the
learn flag still set full becomes the discharged total, clamped, the flag clears and CAPACITY_LEARNED names the old
and the new. Each round compares the record with the warn level, whether or not its SoC changed: ARMED below it raises
PACK_LOW and becomes FIRED, FIRED at or above it plus 5 becomes ARMED. A HELD pack that is still absent keeps its
record. Every measurement of the round is taken. A round of the feeding bay with no switch-over adds its sample to the
second in progress (R63); with DC, the bridge or nothing feeding no sample is gathered, and a switch-over empties the
window. -/
def Obligations.PowerRoundCounts : Prop :=
  (∀ (r : Round) (b : BayId) (g : GaugeRec) (s : State),
    s.Live ∧ s.gaugeRec b = some g ∧ (s.bay b).state ∈ [BayState.ready, .feeding, .swapPrepared, .releasing]
      ∧ (9000 ≤ r.mvOf b ∨ (s.bay b).monitor = .tripped ∨ (s.bay b).tripRun < 2) →
    ∃ t, exec (.powerRound r) s = .next t ∧
      (let sum := g.sub + (r.codeOf b).toInt * 4
      let w := if 100 ≤ sum ∨ sum ≤ -100 then sum.tdiv 100 else 0
      let saturated := (r.codeOf b).toInt = -2048 ∨ (r.codeOf b).toInt = 2047
      let remaining := (max 0 (min (g.full : Int) (g.remaining - w))).toNat
      (t.gaugeRec b).map (fun x => ((x.sub, x.remaining, x.full, x.drawn), (x.learn, x.soc, x.satCount, x.residual)))
        = some ((sum - w * 100, remaining, g.full, if 0 < w then min 4294967295 (g.drawn + w.toNat) else g.drawn),
            (g.learn && !decide saturated && !decide (w < 0), remaining * 100 / g.full,
              if saturated then min 65535 (g.satCount + 1) else g.satCount, g.residual))))
  ∧
  (∀ (r : Round) (b : BayId) (g : GaugeRec) (s : State),
    s.Live ∧ s.gaugeRec b = some g ∧ (s.bay b).state ∈ [BayState.ready, .feeding, .swapPrepared, .releasing]
      ∧ (s.bay b).monitor = .released ∧ 2 ≤ (s.bay b).tripRun ∧ r.mvOf b < 9000 →
    ∃ t, exec (.powerRound r) s = .next t ∧
      (let sum := g.sub + (r.codeOf b).toInt * 4
      let w := if 100 ≤ sum ∨ sum ≤ -100 then sum.tdiv 100 else 0
      let saturated := (r.codeOf b).toInt = -2048 ∨ (r.codeOf b).toInt = 2047
      let remaining := (max 0 (min (g.full : Int) (g.remaining - w))).toNat
      let drawn := if 0 < w then min 4294967295 (g.drawn + w.toNat) else g.drawn
      let learns := g.learn = true ∧ ¬saturated ∧ 0 ≤ w
      let full := max (s.setup.nominal * 1800) (min (s.setup.nominal * 3960) drawn)
      (t.gaugeRec b).map (fun x => ((x.sub, x.remaining, x.full, x.drawn), (x.learn, x.soc, x.satCount, x.residual)))
          = some ((0, 0, if learns then full else g.full, drawn),
              (g.learn && !decide saturated && !decide (w < 0) && !decide learns, 0,
                if saturated then min 65535 (g.satCount + 1) else g.satCount, remaining / 3600))
        ∧ (t.bay b).monitor = .tripped
        ∧ (learns → (t.notices[12]).fresh = true)
        ∧ (learns ∧ 9000 ≤ r.mvOf b.other → (t.notices[12]).payload = le 1 b.code ++ le 2 (full / 3600)
            ++ le 2 (g.full / 3600) ++ le 2 (drawn / 3600) ++ [if full = drawn then 0 else 1])))
  ∧
  (∀ (r : Round) (b : BayId) (g : GaugeRec) (s : State),
    s.Live ∧ s.gaugeRec b = some g ∧ (s.bay b).state ∈ [BayState.ready, .feeding, .swapPrepared, .releasing]
      ∧ (9000 ≤ r.mvOf b ∨ (s.bay b).monitor = .tripped ∨ (s.bay b).tripRun < 2) →
    ∃ t, exec (.powerRound r) s = .next t ∧
      (let sum := g.sub + (r.codeOf b).toInt * 4
      let w := if 100 ≤ sum ∨ sum ≤ -100 then sum.tdiv 100 else 0
      let remaining := (max 0 (min (g.full : Int) (g.remaining - w))).toNat
      let soc := remaining * 100 / g.full
      (t.gaugeRec b).map GaugeRec.armed
          = some (if g.armed then decide (s.src.warn ≤ soc) else decide (s.src.warn + 5 ≤ soc))
        ∧ (g.armed = true ∧ soc < s.src.warn → (t.notices[10]).fresh = true)
        ∧ (g.armed = true ∧ soc < s.src.warn ∧ s.gaugeRec b.other = none →
          (t.notices[10]).payload = le 1 b.code ++ le 1 soc ++ le 1 s.src.warn ++ le 2 (remaining / 3600) ++ [0, 0, 0])))
  ∧
  (∀ (r : Round) (b : BayId) (s : State),
    s.Live ∧ (s.bay b).state = .held ∧ (s.bay b).present.acc = false →
    ∃ t, exec (.powerRound r) s = .next t ∧
      (t.gaugeRec b = s.gaugeRec b ∧ (t.bay b).state = .held))
  ∧
  (∀ (r : Round) (s : State),
    s.Live →
    ∃ t, exec (.powerRound r) s = .next t ∧
      (t.src.bayA.mv = r.mvA ∧ t.src.bayA.code = r.codeA ∧ t.src.bayB.mv = r.mvB ∧ t.src.bayB.code = r.codeB
        ∧ t.src.bridgeMv = r.mvBridge ∧ t.src.dcMv = r.mvDc))
  ∧
  (∀ (r : Round) (b : BayId) (s : State),
    s.Live ∧ s.src.feeding = b.feed ∧ (s.bay b).state = .feeding ∧ (s.bay b).isEligible
      ∧ (9000 ≤ r.mvOf b ∨ (s.bay b).monitor = .tripped ∨ (s.bay b).tripRun < 2)
      ∧ (s.src.policy = .drainLower ∨ (s.bay b.other).state = .empty) ∧ s.src.dcPresent = false ∧ r.mvDc < 17000
      ∧ s.gauge.secCount < 100 →
    ∃ t, exec (.powerRound r) s = .next t ∧
      (t.gauge.secSum = s.gauge.secSum + (r.codeOf b).toInt * 4 ∧ t.gauge.secCount = s.gauge.secCount + 1
        ∧ t.gauge.window = s.gauge.window ∧ t.src.feeding = s.src.feeding))
  ∧
  (∀ (r : Round) (s : State),
    s.Live ∧ s.src.feeding ≠ .bayA ∧ s.src.feeding ≠ .bayB →
    ∃ t, exec (.powerRound r) s = .next t ∧
      (let gathered := (t.gauge.window, t.gauge.secSum, t.gauge.secCount)
      let before := (s.gauge.window, s.gauge.secSum, s.gauge.secCount)
      (gathered = before ∨ gathered = ([], 0, 0))
        ∧ (s.src.feeding = .dc ∧ s.src.dcPresent = true ∧ 15500 ≤ r.mvDc → gathered = before)))

/-- POWER_ROUND, the monitors: the pack monitors (R8), with the depleted flag that a trip sets on a READY or FEEDING
bay, the load moved off it by a forced change (R9, R18) or kept on a stranded bay with no other source (R39), and the
flag cleared by a release under charge and kept by one without; the clean-window field of a QUALIFYING bay (R4); the
bridge monitor above its cutoff, and below it while the bridge does not feed (R10, R11); DC presence with its notice
(R12); a HELD pack that returns at a round in range (R26); a trip of the bridge while bridging, with a bay to
re-engage and with none (R43, R46); and the cutoff of a feeding bridge with no other source, which empties the feeding
set, from BRIDGE with an entry into EXHAUSTED and in EXHAUSTED with none (R11, R44, R45). The order of the parts of a
round is DEDUCED (assumption 8): the release-under-charge clause rests on it where DC presence changes in the round.
The payload of the cutoff's BRIDGE_LOW is the model's choice (assumption 19), and so is that the run a QUALIFYING bay
goes on with may have begun before an interval in SEATED (assumption 47). -/
def Obligations.PowerRoundMonitors : Prop :=
  (∀ (r : Round) (b : BayId) (s : State),
    s.Live ∧ (s.bay b).state ∈ [BayState.qualifying, .ready, .feeding, .swapPrepared, .releasing] →
    ∃ t, exec (.powerRound r) s = .next t ∧
      (let trips := if r.mvOf b < 9000 then min 3 ((s.bay b).tripRun + 1) else 0
      let releases := if 9600 ≤ r.mvOf b then min 3 ((s.bay b).releaseRun + 1) else 0
      (t.bay b).tripRun = trips ∧ (t.bay b).releaseRun = releases
        ∧ (t.bay b).monitor = (if (s.bay b).monitor = .released
          then (if trips = 3 then .tripped else .released)
          else (if releases = 3 then .released else .tripped))))
  ∧
  (∀ (r : Round) (b : BayId) (s : State),
    s.Live ∧ ((s.bay b).state = .ready ∨ (s.bay b).state = .feeding) ∧ (s.bay b).latchOpen = false
      ∧ (s.bay b).monitor = .released ∧ 2 ≤ (s.bay b).tripRun ∧ r.mvOf b < 9000 →
    ∃ t, exec (.powerRound r) s = .next t ∧
      (t.bay b).depleted = true)
  ∧
  (∀ (r : Round) (b : BayId) (s : State),
    s.Live ∧ (s.bay b).state = .feeding ∧ s.src.feeding = b.feed ∧ (s.bay b).latchOpen = false
      ∧ (s.bay b).depleted = false ∧ (s.bay b).monitor = .released ∧ 2 ≤ (s.bay b).tripRun ∧ r.mvOf b < 9000
      ∧ s.src.dcPresent = false
      ∧ r.mvDc < 17000 ∧ (s.bay b.other).state = .ready ∧ (s.bay b.other).depleted = false
      ∧ (s.bay b.other).latchOpen = false ∧ (s.bay b.other).monitor = .released ∧ 9000 ≤ r.mvOf b.other →
    ∃ t, exec (.powerRound r) s = .next t ∧
      (t.src.feeding = b.other.feed ∧ (t.bay b.other).state = .feeding ∧ (t.bay b).state = .ready
        ∧ (t.bay b).depleted = true ∧ t.src.power = .pack ∧ t.gauge.window = []))
  ∧
  (∀ (r : Round) (b : BayId) (s : State),
    s.Live ∧ (s.bay b).state = .ready ∧ (s.bay b).depleted = true ∧ (s.bay b).monitor = .tripped
      ∧ 2 ≤ (s.bay b).releaseRun ∧ 9600 ≤ r.mvOf b ∧ s.src.feeding ≠ b.feed
      ∧ s.src.dcPresent = (s.bay b).chargeSel →
    ∃ t, exec (.powerRound r) s = .next t ∧
      ((t.bay b).monitor = .released ∧ (t.bay b).depleted = !(s.bay b).chargeSel))
  ∧
  (∀ (r : Round) (s : State),
    s.Live ∧ 3000 ≤ r.mvBridge →
    ∃ t, exec (.powerRound r) s = .next t ∧
      (let below := if r.mvBridge < 3300 then min 3 (s.src.bridgeBelow + 1) else 0
      let notBelow := if r.mvBridge < 3300 then 0 else min 3 (s.src.bridgeNotBelow + 1)
      let high := if r.mvBridge < 3600 then 0 else min 3 (s.src.bridgeHigh + 1)
      t.src.bridgeBelow = below ∧ t.src.bridgeNotBelow = notBelow ∧ t.src.bridgeHigh = high
        ∧ t.src.bridgeMonitor = (match s.src.bridgeMonitor with
          | .ready => if below = 3 then .low else .ready
          | .recovering => if below = 3 then .low else if high = 3 then .ready else .recovering
          | .low => if high = 3 then .ready else if notBelow = 3 then .recovering else .low)
        ∧ (t.src.bridgeMonitor = .ready ∧ s.src.bridgeMonitor ≠ .ready → t.src.cutoff = false)
        ∧ (t.src.bridgeMonitor = .low ∧ s.src.bridgeMonitor ≠ .low → (t.notices[7]).fresh = true)))
  ∧
  (∀ (r : Round) (s : State),
    s.Live →
    ∃ t, exec (.powerRound r) s = .next t ∧
      (t.src.dcPresent = (if s.src.dcPresent then decide (15500 ≤ r.mvDc) else decide (17000 ≤ r.mvDc ∧ 4 ≤ s.src.dcRun))
        ∧ t.src.dcRun = (if t.src.dcPresent ≠ s.src.dcPresent then 0 else if s.src.dcPresent then s.src.dcRun
          else if 17000 ≤ r.mvDc then s.src.dcRun + 1 else 0)
        ∧ (t.src.dcPresent ≠ s.src.dcPresent →
          (t.notices[9]).fresh = true ∧ (t.notices[9]).payload.take 3 = [if t.src.dcPresent then 1 else 0] ++ le 2 r.mvDc)))
  ∧
  (∀ (r : Round) (b : BayId) (s : State),
    s.Live ∧ (s.bay b).state = .held ∧ (s.bay b).present.acc = true ∧ (s.bay b).latchOpen = false
      ∧ s.src.feeding ≠ b.feed ∧ (s.bay b).prior = some .ready ∧ 9000 ≤ r.mvOf b ∧ r.mvOf b ≤ 13000 →
    ∃ t, exec (.powerRound r) s = .next t ∧
      (((t.bay b).state = .ready ∨ (t.bay b).state = .feeding) ∧ (t.bay b).prior = none
        ∧ (t.bay b).outcome = some .returned ∧ (t.bay b).heldSince = none
        ∧ (t.bay b).heldMs = (match (s.bay b).heldSince with
          | none => (s.bay b).heldMs
          | some c => min 65535 ((s.bay b).heldMs + (s.time - c).toNat))))
  ∧
  (∀ (r : Round) (s : State),
    s.Live ∧ s.src.feeding = .bridge ∧ s.src.power = .bridge ∧ s.src.cutoff = false ∧ r.mvBridge < 3000
      ∧ s.src.bridgeMonitor ≠ .low ∧ s.src.bridgeBelow < 2 ∧ s.src.dcPresent = false ∧ r.mvDc < 17000
      ∧ s.src.bayA.state = .empty ∧ s.src.bayB.state = .empty ∧ s.Room 1 →
    ∃ t, exec (.powerRound r) s = .next t ∧
      (t.src.feeding = .empty ∧ t.src.power = .exhausted ∧ t.src.exhLatch = true ∧ t.src.cutoff = true
        ∧ t.src.bridgeMonitor = .low ∧ t.src.rideTimer = none ∧ t.shutdownRequested = true ∧ t.bright.ceiling = 0
        ∧ t.bright.current = 0
        ∧ t.hist.list = s.hist.list ++ [{ s with src.bridgeMv := r.mvBridge }.holdupRecord .bridgeCutoff .bridge
            (match s.src.rideTimer with | none => 0 | some x => (s.time - x.start).toNat)
            (s.remainingMah .bayA) (s.remainingMah .bayB)]
        ∧ (t.notices[7]).payload = le 2 r.mvBridge ++ [0, 1, 0, 0, 0, 0]
        ∧ (t.notices[8]).payload = [2, 2] ++ le 2 r.mvBridge ++ [0, 0, 0, 0]))
  ∧
  (∀ (r : Round) (s : State),
    s.Live ∧ s.src.feeding = .bridge ∧ s.src.power = .bridge ∧ s.src.cutoff = false ∧ 3000 ≤ r.mvBridge
      ∧ r.mvBridge < 3300 ∧ s.src.bridgeMonitor ≠ .low ∧ 2 ≤ s.src.bridgeBelow ∧ s.src.dcPresent = false
      ∧ r.mvDc < 17000 ∧ s.src.bayA.state = .empty ∧ s.src.bayB.state = .empty ∧ s.Room 1 →
    ∃ t, exec (.powerRound r) s = .next t ∧
      (t.src.feeding = .bridge ∧ t.src.power = .exhausted ∧ t.src.exhLatch = true ∧ t.src.cutoff = false
        ∧ t.src.bridgeMonitor = .low ∧ t.src.rideTimer = none ∧ t.shutdownRequested = true ∧ t.bright.ceiling = 0
        ∧ t.bright.current = 0
        ∧ t.hist.list = s.hist.list ++ [{ s with src.bridgeMv := r.mvBridge }.holdupRecord .bridgeTrip .bridge
            (match s.src.rideTimer with | none => 0 | some x => (s.time - x.start).toNat)
            (s.remainingMah .bayA) (s.remainingMah .bayB)]
        ∧ (t.notices[7]).payload = le 2 r.mvBridge ++ [1, 0, 0, 0, 0, 0]
        ∧ (t.notices[8]).payload = [1, 2] ++ le 2 r.mvBridge ++ [0, 0, 0, 0]))
  ∧
  (∀ (r : Round) (b : BayId) (s : State),
    s.Live ∧ s.src.feeding = .bridge ∧ s.src.power = .bridge ∧ s.src.cutoff = false ∧ 3000 ≤ r.mvBridge
      ∧ r.mvBridge < 3300 ∧ s.src.bridgeMonitor ≠ .low ∧ 2 ≤ s.src.bridgeBelow ∧ s.src.dcPresent = false
      ∧ r.mvDc < 17000 ∧ (s.bay b).mayReengage ∧ 9000 ≤ r.mvOf b ∧ (s.bay b.other).state = .empty →
    ∃ t, exec (.powerRound r) s = .next t ∧
      (t.src.feeding = b.feed ∧ (t.bay b).state = .feeding ∧ (t.bay b).prepTimer = none ∧ t.src.power = .pack
        ∧ t.src.exhLatch = false ∧ t.src.rideTimer = none ∧ t.src.bridgeMonitor = .low ∧ t.hist.list = s.hist.list
        ∧ (t.notices[7]).payload = le 2 r.mvBridge ++ [1, 0, 0, 0, 0, 0]
        ∧ (t.notices[5]).payload = le 1 b.code ++ [1] ++ le 1 BayState.feeding.code ++ [0, 0, 0, 0, 0]))
  ∧
  (∀ (r : Round) (s : State),
    s.Live ∧ s.src.feeding = .bridge ∧ s.src.power = .exhausted ∧ s.src.exhLatch = true
      ∧ s.src.bridgeMonitor = .low ∧ r.mvBridge < 3000 ∧ s.src.dcPresent = false ∧ r.mvDc < 17000
      ∧ s.src.bayA.state = .empty ∧ s.src.bayB.state = .empty →
    ∃ t, exec (.powerRound r) s = .next t ∧
      (t.src.feeding = .empty ∧ t.src.power = .exhausted ∧ t.src.exhLatch = true ∧ t.src.cutoff = true
        ∧ t.src.bridgeMonitor = .low ∧ t.src.rideTimer = none ∧ t.shutdownRequested = true
        ∧ t.hist.list = s.hist.list ∧ t.notices[7] = s.notices[7] ∧ t.notices[8] = s.notices[8]))
  ∧
  (∀ (r : Round) (b : BayId) (s : State),
    s.Live ∧ (s.bay b).state = .qualifying →
    ∃ t, exec (.powerRound r) s = .next t ∧
      ((t.bay b).state = .qualifying ∧ (t.bay b).qualStart = (s.bay b).qualStart
        ∧ (t.bay b).clean = ((s.bay b).clean && decide (9000 ≤ r.mvOf b ∧ r.mvOf b ≤ 13000))))
  ∧
  (∀ (r : Round) (b : BayId) (s : State),
    s.Live ∧ s.src.feeding ≠ .bridge ∧ r.mvBridge < 3000
      ∧ (s.src.dcPresent = true ∨ ((s.bay b).isEligible ∧ (s.bay b).monitor = .released ∧ 9000 ≤ r.mvOf b)) →
    ∃ t, exec (.powerRound r) s = .next t ∧
      (let below := min 3 (s.src.bridgeBelow + 1)
      t.src.bridgeBelow = below ∧ t.src.bridgeNotBelow = 0 ∧ t.src.bridgeHigh = 0 ∧ t.src.cutoff = s.src.cutoff
        ∧ (if s.src.bridgeMonitor ≠ .low ∧ below = 3 then
            t.src.bridgeMonitor = .low ∧ (t.notices[7]).fresh = true
              ∧ (t.notices[7]).payload = le 2 r.mvBridge ++ [0, if s.src.cutoff then 1 else 0, 0, 0, 0, 0]
          else t.src.bridgeMonitor = s.src.bridgeMonitor ∧ t.notices[7] = s.notices[7])))
  ∧
  (∀ (r : Round) (b : BayId) (s : State),
    s.Live ∧ (s.bay b).state = .feeding ∧ s.src.feeding = b.feed ∧ (s.bay b).latchOpen = true
      ∧ (s.bay b).depleted = false ∧ (s.bay b).monitor = .released ∧ 2 ≤ (s.bay b).tripRun ∧ r.mvOf b < 9000
      ∧ s.src.dcPresent = false ∧ r.mvDc < 17000 ∧ (s.bay b.other).state = .empty
      ∧ (s.src.exhLatch = true ∨ (s.src.bridgeMonitor = .low ∧ r.mvBridge < 3300)) →
    ∃ t, exec (.powerRound r) s = .next t ∧
      (t.src.feeding = b.feed ∧ (t.bay b).state = .feeding ∧ (t.bay b).latchOpen = true
        ∧ (t.bay b).depleted = true ∧ (t.bay b).monitor = .tripped ∧ t.src.power = s.src.power
        ∧ t.hist.list = s.hist.list ∧ t.notices[8] = s.notices[8]))

/-! ## Windows, preparations and their timers -/

/-- QUALIFICATION_WINDOW_END (R4, R7, R55, R62): nothing before 2,000 ms; a window that is not clean ends in FAULT
with BAY_FAULT, and the kept capacity is forgotten; a clean one makes the bay READY with a released monitor and the
record of the open-circuit estimate, raises PACK_LOW if it starts below the warning level, raises BAY_READY with the
estimate, and runs selection and charge selection. -/
def Obligations.QualificationWindowEnds : Prop :=
  (∀ (b : BayId) (s : State),
    s.Live ∧ ((s.bay b).state ≠ .qualifying ∨ (s.time - (s.bay b).qualStart).toNat < 2000) →
    ∃ t, exec (.qualificationWindowEnd b) s = .next t ∧
      t = s)
  ∧
  (∀ (b : BayId) (s : State),
    s.Live ∧ (s.bay b).state = .qualifying ∧ 2000 ≤ (s.time - (s.bay b).qualStart).toNat ∧ (s.bay b).clean = false →
    ∃ t, exec (.qualificationWindowEnd b) s = .next t ∧
      State.Settled (raise .bayFault (le 1 b.code ++ le 2 (s.bay b).mv)
        ((((s.setBay b { s.bay b with state := .fault, prior := none, priorRel := none }).setGaugeRec b none).setKept b
          none).touch .power)) t)
  ∧
  (∀ (b : BayId) (s : State),
    s.Live ∧ (s.bay b).state = .qualifying ∧ 2000 ≤ (s.time - (s.bay b).qualStart).toNat ∧ (s.bay b).clean = true
      ∧ s.Fed →
    ∃ t, exec (.qualificationWindowEnd b) s = .next t ∧
      (let r := s.estimate b (s.bay b).mv
      let u := (((s.setBay b { s.bay b with
        state := .ready, prior := none, priorRel := none, monitor := .released, tripRun := 0, releaseRun := 0,
        depleted := false }).setGaugeRec b (some { r with armed := decide (s.src.warn ≤ r.soc) })).setKept b none).touch .power
      let v := if r.soc < s.src.warn then
          raise .packLow (le 1 b.code ++ le 1 r.soc ++ le 1 s.src.warn ++ le 2 (r.remaining / 3600)) u
        else u
      State.Settled
        (selectCharge (runSelection (raise .bayReady
          (le 1 b.code ++ le 2 (s.bay b).mv ++ le 1 (interpolate Config.openCircuit (s.bay b).mv)) v))) t))

/-- PREPARATION_SWITCH_OVER (R33, R34, R35): nothing with none pending; a READY bay is SWAP_PREPARED and the request
finishes OK; a FEEDING bay with no alternative finishes NO_SOURCE; with one the load moves to it, the bay is
SWAP_PREPARED with its timer running, and the request finishes OK; a bay in any other state finishes WRONG_STATE. An
abandoned request has no entry to finish. A set latch note is then applied outside a hold: the prepared bay is
RELEASING with its timer running, and a bay that kept the load meets the unplanned release, here with no source for
it. That selection runs as the bay enters SWAP_PREPARED, and not again where it kept the load, is the model's choice
(assumption 19); that a hold leaves the note to its end is another (assumption 20). -/
def Obligations.PreparationSwitchesOver : Prop :=
  (∀ (s : State),
    s.Live ∧ s.src.prep.pending = false →
    ∃ t, exec .preparationSwitchOver s = .next t ∧
      t = s)
  ∧
  (∀ (e : EntryId) (b : BayId) (s : State),
    s.Live ∧ s.Prepares b ∧ s.src.prep.request = some e ∧ s.req.actPower = some e ∧ s.req.intake = []
      ∧ s.NoHostDisplaced ∧ (s.src.prep.latchNote = false ∨ s.src.hold = true) ∧ (s.bay b).state = .ready
      ∧ s.src.feeding ≠ b.feed ∧ s.Fed →
    ∃ t, exec .preparationSwitchOver s = .next t ∧
      (let u := { s with
        src.prep := { s.src.prep with pending := false, latchNote := false, request := none }, req.actPower := none }
      State.Served
        (giveGroup swapAnnounced (selectCharge (runSelection ((u.setBay b (u.preparedBay b)).touch .power))))
        t e .ok 0 []))
  ∧
  (∀ (b : BayId) (s : State),
    s.Live ∧ s.Prepares b ∧ s.src.prep.request = none ∧ s.req.actPower = none ∧ s.req.intake = []
      ∧ s.NoHostDisplaced ∧ (s.src.prep.latchNote = false ∨ s.src.hold = true) ∧ (s.bay b).state = .ready
      ∧ s.src.feeding ≠ b.feed ∧ s.Fed →
    ∃ t, exec .preparationSwitchOver s = .next t ∧
      (let u := { s with src.prep := { s.src.prep with pending := false, latchNote := false } }
      State.Settled
        (giveGroup swapAnnounced (selectCharge (runSelection ((u.setBay b (u.preparedBay b)).touch .power)))) t))
  ∧
  (∀ (e : EntryId) (b : BayId) (s : State),
    s.Live ∧ s.Prepares b ∧ s.src.prep.request = some e ∧ s.req.actPower = some e ∧ s.req.intake = []
      ∧ s.NoHostDisplaced ∧ s.src.prep.latchNote = true ∧ s.src.hold = false ∧ (s.bay b).latch.acc = false
      ∧ (s.bay b).state = .ready ∧ s.src.feeding ≠ b.feed ∧ s.Fed
      ∧ s.TripLaw
      ∧ ((s.bay b.other).mayReengage → (s.bay b.other).depleted = false ∧ (s.bay b.other).latchOpen = false) →
    ∃ t, exec .preparationSwitchOver s = .next t ∧
      (let u := { s with
        src.prep := { s.src.prep with pending := false, latchNote := false, request := none }, req.actPower := none }
      let v := giveGroup swapAnnounced (selectCharge (runSelection ((u.setBay b (u.preparedBay b)).touch .power)))
      State.Served (selectCharge (runSelection (v.setBay b { v.bay b with
        state := .releasing, prior := some .swapPrepared }))) t e .ok 0 []))
  ∧
  (∀ (e : EntryId) (b : BayId) (s : State),
    s.Live ∧ s.Prepares b ∧ s.src.prep.request = some e ∧ s.req.actPower = some e ∧ s.req.intake = []
      ∧ (s.src.prep.latchNote = false ∨ s.src.hold = true) ∧ (s.bay b).state = .feeding ∧ ¬s.hasAlternative b →
    ∃ t, exec .preparationSwitchOver s = .next t ∧
      State.Served { s with
          src.prep := { s.src.prep with pending := false, latchNote := false, request := none }, req.actPower := none }
        t e .noSource 0 [])
  ∧
  (∀ (e : EntryId) (b : BayId) (s : State),
    s.Live ∧ s.Prepares b ∧ s.src.prep.request = some e ∧ s.req.actPower = some e ∧ s.req.intake = []
      ∧ s.src.prep.latchNote = true ∧ s.src.hold = false ∧ (s.bay b).state = .feeding ∧ (s.bay b).latchOpen = false
      ∧ s.src.feeding = b.feed ∧ ¬s.hasAlternative b ∧ ¬(s.bay b.other).mayReengage
      ∧ (s.src.bridgeMonitor = .low ∨ s.src.cutoff = true ∨ s.src.exhLatch = true) →
    ∃ t, exec .preparationSwitchOver s = .next t ∧
      (let u := { s with
        src.prep := { s.src.prep with pending := false, latchNote := false, request := none }, req.actPower := none }
      State.Served (raise .unplannedRelease (le 1 b.code ++ [1] ++ le 1 b.feed.code)
        ((u.setBay b { s.bay b with latchOpen := true }).touch .power)) t e .noSource 0 []))
  ∧
  (∀ (b : BayId) (s : State),
    s.Live ∧ s.Prepares b ∧ s.req.actPower = s.src.prep.request ∧ s.req.intake = [] ∧ (s.bay b).state = .feeding
      ∧ (s.bay b).latchOpen = false ∧ s.src.feeding = b.feed ∧ s.hasAlternative b
      ∧ (s.bay b.other).monitor = .released →
    ∃ t, exec .preparationSwitchOver s = .next t ∧
      (let back := (s.bay b.other).isEligible ∧ s.src.dcPresent = true
      let opened := s.src.prep.latchNote = true ∧ s.src.hold = false
      t.src.feeding = (if back ∧ s.src.hold = false then .dc
          else if (s.bay b.other).isEligible then b.other.feed else if s.src.dcPresent then .dc else .bridge)
        ∧ t.src.deferred = (s.src.deferred || decide (back ∧ s.src.hold = true))
        ∧ (t.bay b).state = (if opened then .releasing else .swapPrepared)
        ∧ (t.bay b).prior = (if opened then some .swapPrepared else none) ∧ (t.bay b).chargeSel = false
        ∧ (t.bay b).prepTimer = some { start := s.time, len := 1000 * s.setup.prepTimeout }
        ∧ (t.bay b).prepStart = s.time ∧ t.gauge.window = []
        ∧ t.src.prep = { s.src.prep with pending := false, latchNote := false, request := none }
        ∧ t.req.actPower = none
        ∧ (∀ e, s.src.prep.request = some e →
          t.entry e = .done ∧ t.bytesAt (entryBase e + 4) (resultBytes .ok 0 []))
        ∧ t.hist = s.hist ∧ t.motion = s.motion ∧ t.clock = s.clock ∧ t.setup = s.setup))
  ∧
  (∀ (e : EntryId) (b : BayId) (s : State),
    s.Live ∧ s.Prepares b ∧ s.src.prep.request = some e ∧ s.req.actPower = some e ∧ s.req.intake = []
      ∧ (s.src.prep.latchNote = false ∨ s.src.hold = true ∨ (s.bay b).state = .empty ∨ (s.bay b).state = .held)
      ∧ (s.bay b).state ≠ .ready ∧ (s.bay b).state ≠ .feeding →
    ∃ t, exec .preparationSwitchOver s = .next t ∧
      State.Served { s with
          src.prep := { s.src.prep with pending := false, latchNote := false, request := none }, req.actPower := none }
        t e .wrongState 0 [])

/-- PREPARED_TIMER_EXPIRY (R36): nothing before the time; a SWAP_PREPARED bay becomes READY with both selections, and
the prior states of a RELEASING or HELD bay that were SWAP_PREPARED become READY; SWAP_EXPIRED names the bay, reason
TIMEOUT and the state, which is READY for the first even if selection then makes the bay FEEDING (the model's choice,
assumption 33). RIDE_THROUGH_EXPIRY (R42, R44, R46, R48): nothing before the time; with one bay to re-engage it takes
the load; with none, and no other source, the bridge feeds on, the power state is EXHAUSTED with its latch and the
HOLDUP record is handed over. -/
def Obligations.TimersExpire : Prop :=
  (∀ (b : BayId) (s : State),
    s.Live ∧ (s.bay b).prepTimer.all (fun x => decide ((s.time - x.start).toNat < x.len)) = true →
    ∃ t, exec (.preparedTimerExpiry b) s = .next t ∧
      t = s)
  ∧
  (∀ (b : BayId) (s : State),
    s.Live ∧ (s.bay b).prepTimer.any (fun x => decide (x.len ≤ (s.time - x.start).toNat)) = true
      ∧ (s.bay b).state = .swapPrepared ∧ s.Fed →
    ∃ t, exec (.preparedTimerExpiry b) s = .next t ∧
      (let u := raise .swapExpired (le 1 b.code ++ [0] ++ le 1 BayState.ready.code) s
      State.Settled (selectCharge (runSelection ((u.setBay b { s.bay b with
        state := .ready, prior := none, priorRel := none, prepTimer := none,
        depleted := (s.bay b).depleted || decide ((s.bay b).monitor = .tripped) }).touch .power))) t))
  ∧
  (∀ (b : BayId) (s : State),
    s.Live ∧ (s.bay b).prepTimer.any (fun x => decide (x.len ≤ (s.time - x.start).toNat)) = true
      ∧ (s.bay b).state ≠ .swapPrepared →
    ∃ t, exec (.preparedTimerExpiry b) s = .next t ∧
      State.Settled ((raise .swapExpired (le 1 b.code ++ [0] ++ le 1 (s.bay b).state.code) s).setBay b { s.bay b with
        prior := if (s.bay b).prior = some .swapPrepared then some .ready else (s.bay b).prior
        priorRel := if (s.bay b).priorRel = some .swapPrepared then some .ready else (s.bay b).priorRel
        prepTimer := none }) t)
  ∧
  (∀ (s : State),
    s.Live ∧ s.src.rideTimer.all (fun x => decide ((s.time - x.start).toNat < x.len)) = true →
    ∃ t, exec .rideThroughExpiry s = .next t ∧
      t = s)
  ∧
  (∀ (x : Timer) (s : State),
    s.Live ∧ s.src.rideTimer = some x ∧ x.len ≤ (s.time - x.start).toNat ∧ s.src.feeding = .bridge
      ∧ s.src.power = .bridge ∧ s.src.cutoff = false ∧ s.src.dcPresent = false ∧ ¬s.src.bayA.isEligible
      ∧ ¬s.src.bayB.isEligible ∧ ¬s.src.bayA.mayReengage ∧ ¬s.src.bayB.mayReengage ∧ s.Room 1 →
    ∃ t, exec .rideThroughExpiry s = .next t ∧
      (t.src = { s.src with power := .exhausted, exhLatch := true, rideTimer := none }
        ∧ t.shutdownRequested = true ∧ t.bright.ceiling = 0 ∧ t.bright.current = 0 ∧ t.gauge = s.gauge
        ∧ t.hist.list = s.hist.list ++ [s.holdupRecord .rideThrough .bridge (s.time - x.start).toNat
            (s.remainingMah .bayA) (s.remainingMah .bayB)]
        ∧ (t.notices[8]).payload = [0, 2] ++ le 2 s.src.bridgeMv ++ [0, 0, 0, 0]))
  ∧
  (∀ (x : Timer) (b : BayId) (s : State),
    s.Live ∧ s.src.rideTimer = some x ∧ x.len ≤ (s.time - x.start).toNat ∧ s.src.feeding = .bridge
      ∧ (s.bay b).mayReengage ∧ ¬(s.bay b.other).mayReengage →
    ∃ t, exec .rideThroughExpiry s = .next t ∧
      (t.src.feeding = b.feed ∧ (t.bay b).state = .feeding ∧ (t.bay b).prepTimer = none ∧ t.src.power = .pack
        ∧ t.src.rideTimer = none ∧ t.src.exhLatch = false ∧ t.gauge.window = [] ∧ t.hist = s.hist
        ∧ (t.notices[5]).payload = le 1 b.code ++ [1] ++ le 1 BayState.feeding.code ++ [0, 0, 0, 0, 0]))

/-! ## Light, ramp, backlight, pulses -/

/-- LIGHT_SAMPLE (R67 to R71, R77, R78): none is taken outside RUN; in RUN the code is kept, and it is discarded after
a gain switch, switches the gain, or gives a lux value that enters the filter and the saturated state; the off
allowance and the ceiling are then judged with the filtered value. An entry into saturation raises LIGHT_SATURATED
(R69) and a change of allowance SUNLIGHT_ALLOWANCE with its cause (R78); neither is raised otherwise. Nothing outside
the display blocks, the notices and the pages changes. -/
def Obligations.LightSampleFiltered : Prop :=
  (∀ (code : BitVec 10) (s : State),
    s.Live ∧ s.src.sysState ≠ .run →
    ∃ t, exec (.lightSample code) s = .next t ∧
      t = s)
  ∧
  (∀ (code : BitVec 10) (s : State),
    s.Live ∧ s.src.sysState = .run →
    ∃ t, exec (.lightSample code) s = .next t ∧
      (let c := code.toNat
      let x := s.bright
      let switches := (x.gain = .high ∧ 960 < c) ∨ (x.gain = .low ∧ c < 48)
      let valid := x.discard = false ∧ ¬switches
      let raw := if x.gain = .high then c * 8 else c * 128
      let filtered :=
        if ¬valid then x.filtered
        else if x.filterValid = false then raw
        else if x.filtered < raw then x.filtered + (raw - x.filtered + 2 ^ x.attack - 1) / 2 ^ x.attack
        else x.filtered - (x.filtered - raw + 2 ^ x.release - 1) / 2 ^ x.release
      let soc := match s.src.feeding with
        | .bayA => s.soc .bayA
        | .bayB => s.soc .bayB
        | _ => 0
      let allowance :=
        if x.allowance = true then
          decide (s.src.power = .pack ∧ x.reserve ≤ soc + 2 ∧ x.threshold * 7 / 8 ≤ filtered)
        else decide (s.src.power = .pack ∧ x.threshold ≤ filtered ∧ x.reserve ≤ soc)
      let saturates := valid ∧ x.gain = .low ∧ 1020 ≤ c ∧ x.saturated = false
      let cause : AllowanceCause :=
        if allowance = true then .lux
        else if s.src.power ≠ .pack then .powerState
        else if soc + 2 < x.reserve then .soc
        else .lux
      t.bright.lastCode = c
        ∧ t.bright.discard = decide (x.discard = false ∧ switches)
        ∧ t.bright.gain = (if x.discard = false ∧ switches then (if x.gain = .high then .low else .high) else x.gain)
        ∧ t.bright.rawLux = (if valid then raw else x.rawLux)
        ∧ t.bright.filterValid = (x.filterValid || decide valid)
        ∧ t.bright.filtered = filtered
        ∧ t.bright.saturated = (if valid ∧ x.gain = .low then
            (if 1020 ≤ c then true else if c < 980 then false else x.saturated) else x.saturated)
        ∧ (saturates → (t.notices[15]).fresh = true
          ∧ (t.notices[15]).payload = le 2 c ++ le 3 raw ++ le 3 x.filtered)
        ∧ (¬saturates → t.notices[15] = s.notices[15])
        ∧ (allowance ≠ x.allowance → (t.notices[14]).fresh = true
          ∧ (t.notices[14]).payload = [if allowance then 1 else 0] ++ le 1 cause.code ++ le 3 filtered ++ le 1 soc ++ [0, 0])
        ∧ (allowance = x.allowance → t.notices[14] = s.notices[14])
        ∧ t.bright.allowance = allowance
        ∧ t.bright.ceiling = (match s.src.power with
          | .dc => 1000
          | .pack => if allowance = true then 1000 else x.battCeil
          | .bridge => x.bridgeCeil
          | .exhausted => 0)
        ∧ t = { s with
          bright := t.bright, drv := t.drv, notices := t.notices,
          link := { s.link with memory := t.link.memory, attn := t.link.attn }, pages := t.pages }
        ∧ (∀ a, a < 0x2000 → pageByte a = false → t.xread a = s.xread a)))

/-- RAMP_STEP (R73, R74, R75, R77, R81, R83): a waiting staged curve is installed and its INSTALL_CURVE finishes OK;
the chain runs; in RUN the current level drops to the ceiling, or moves toward the target by at most the ramp step,
and outside RUN it stays; the compare follows it and the driver has it. The point count as one byte of INSTALL_CURVE's
result data is the model's choice (assumption 12). -/
def Obligations.RampMoves : Prop :=
  (∀ (s : State),
    s.Live ∧ s.bright.staged = none ∧ s.CompareLaw →
    ∃ t, exec .rampStep s = .next t ∧
      (let x := t.bright
      let current :=
        if s.src.sysState ≠ .run then s.bright.current
        else if x.ceiling < s.bright.current then x.ceiling
        else if s.bright.current < x.target then min x.target (s.bright.current + s.bright.ramp)
        else if x.target < s.bright.current then max x.target (s.bright.current - s.bright.ramp)
        else s.bright.current
      x.curveLevel = interpolate s.bright.curve s.bright.filtered
        ∧ x.request = (if s.bright.mode = .manual then s.bright.manual
          else (max 0 (min 1000 (x.curveLevel + s.bright.offset))).toNat)
        ∧ x.ceiling = (match s.src.power with
          | .dc => 1000
          | .pack => if x.allowance = true then 1000 else s.bright.battCeil
          | .bridge => s.bright.bridgeCeil
          | .exhausted => 0)
        ∧ x.target = min x.request x.ceiling
        ∧ x.current = current
        ∧ x.compare = (if current = 0 then 0
          else max ((current * s.setup.period + 500) / 1000) s.setup.minOn)
        ∧ t.drv.nextCompare = x.compare ∧ t.drv.levelZero = decide (current = 0)
        ∧ (x.ceiling ≠ s.bright.ceiling → (t.notices[13]).fresh = true
          ∧ (t.notices[13]).payload = le 2 x.ceiling ++ le 2 s.bright.ceiling ++ le 1 s.src.power.code
            ++ [if x.allowance then 1 else 0] ++ [0, 0])
        ∧ t = { s with
          bright := t.bright, drv := t.drv, notices := t.notices,
          link := { s.link with memory := t.link.memory, attn := t.link.attn }, pages := t.pages }
        ∧ (∀ a, a < 0x2000 → pageByte a = false → t.xread a = s.xread a)))
  ∧
  (∀ (e : EntryId) (cv : List (Nat × Nat)) (s : State),
    s.Live ∧ s.bright.staged = some cv ∧ s.req.actDisplay = some e ∧ s.req.intake = [] →
    ∃ t, exec .rampStep s = .next t ∧
      (t.bright.curve = cv ∧ t.bright.origin = .host ∧ t.bright.staged = none
        ∧ t.bright.curveLevel = interpolate cv s.bright.filtered
        ∧ t.req = { s.req with entries := s.req.entries.set e .done, actDisplay := none }
        ∧ t.bytesAt (entryBase e + 4) (resultBytes .ok 0 (le 1 cv.length))))

/-- DELAY_EXPIRY and FRAME_BOUNDARY (R90, R91, R93) take up the next compare, at most the next period, and the next
frame parameters, at the end of the on-delay and in FRAMING, and do nothing else and nothing at any other time.
ON_TIME_END and OFF_TIME_END (R96, R98): at its time a pulse's on phase ends and one more pulse is completed; its off
phase ends with the next pulse, or with the group's end, when the first waiting group starts and a HOST group's
request finishes. BL_PWM has the level of its phase by polarity and inversion, and the off level outside FRAMING (R91,
R92). Pulses completed as one byte of result data is the model's choice (assumption 12). -/
def Obligations.BacklightAndPulses : Prop :=
  (∀ (s : State),
    s.Live ∧ ¬(s.drv.state = .delay ∧ s.drv.delayLen ≤ (s.time - s.drv.delayStart).toNat) →
    ∃ t, exec .delayExpiry s = .next t ∧
      t = s)
  ∧
  (∀ (s : State),
    s.Live ∧ s.drv.state = .delay ∧ s.drv.delayLen ≤ (s.time - s.drv.delayStart).toNat →
    ∃ t, exec .delayExpiry s = .next t ∧
      (t = { s with
        drv.state := .framing
        drv.activeCompare := min s.drv.nextCompare s.drv.nextPeriod
        drv.period := s.drv.nextPeriod
        drv.swapped := s.drv.nextSwapped
        drv.inverted := s.drv.nextInverted } ∧ t.blEn = true))
  ∧
  (∀ (s : State),
    s.Live ∧ s.drv.state ≠ .framing →
    ∃ t, exec .frameBoundary s = .next t ∧
      t = s)
  ∧
  (∀ (s : State),
    s.Live ∧ s.drv.state = .framing →
    ∃ t, exec .frameBoundary s = .next t ∧
      t = { s with
        drv.activeCompare := min s.drv.nextCompare s.drv.nextPeriod
        drv.period := s.drv.nextPeriod
        drv.swapped := s.drv.nextSwapped
        drv.inverted := s.drv.nextInverted })
  ∧
  (∀ (s : State),
    s.Live ∧ s.drv.active.all (fun g => !g.phaseOn || decide ((s.time - g.phaseStart).toNat < g.onMs)) = true →
    ∃ t, exec .onTimeEnd s = .next t ∧
      t = s)
  ∧
  (∀ (g : Group) (s : State),
    s.Live ∧ s.drv.active = some g ∧ g.phaseOn = true ∧ g.onMs ≤ (s.time - g.phaseStart).toNat →
    ∃ t, exec .onTimeEnd s = .next t ∧
      (t = { s with
        drv.active := some { g with phaseOn := false, completed := g.completed + 1, phaseStart := s.time } }
        ∧ t.ind = false))
  ∧
  (∀ (s : State),
    s.Live ∧ s.drv.active.all (fun g => g.phaseOn || decide ((s.time - g.phaseStart).toNat < g.offMs)) = true →
    ∃ t, exec .offTimeEnd s = .next t ∧
      t = s)
  ∧
  (∀ (g : Group) (s : State),
    s.Live ∧ s.drv.active = some g ∧ g.phaseOn = false ∧ g.offMs ≤ (s.time - g.phaseStart).toNat
      ∧ g.completed ≠ g.count →
    ∃ t, exec .offTimeEnd s = .next t ∧
      (t = { s with drv.active := some { g with phaseOn := true, phaseStart := s.time } } ∧ t.ind = true))
  ∧
  (∀ (g : Group) (s : State),
    s.Live ∧ s.drv.active = some g ∧ g.phaseOn = false ∧ g.offMs ≤ (s.time - g.phaseStart).toNat
      ∧ g.completed = g.count ∧ g.entry = none →
    ∃ t, exec .offTimeEnd s = .next t ∧
      t = { s with drv := s.drv.waitingStarted s.time })
  ∧
  (∀ (g : Group) (e : EntryId) (s : State),
    s.Live ∧ s.drv.active = some g ∧ g.phaseOn = false ∧ g.offMs ≤ (s.time - g.phaseStart).toNat
      ∧ g.completed = g.count ∧ g.entry = some e ∧ s.req.actDisplay = some e ∧ s.req.intake = [] →
    ∃ t, exec .offTimeEnd s = .next t ∧
      State.Served { s with drv := s.drv.waitingStarted s.time, req.actDisplay := none } t e
        (if g.flags = 0 then .ok else .clamped) g.flags (le 1 g.completed))
  ∧
  (∀ (count : Nat) (s : State),
    s.blPwm count =
      if s.drv.state = .framing then
        (if count < s.drv.activeCompare then
          (match s.drv.swapped, s.drv.inverted with
          | false, false => true
          | true, false => false
          | false, true => false
          | true, true => true)
        else
          (match s.drv.swapped, s.drv.inverted with
          | false, false => false
          | true, false => true
          | false, true => true
          | true, true => false))
      else s.drv.inverted)

/-! ## Motion -/

/-- SAMPLE_SLOT, the sample (R104, R105, R120): a frame is good when its seven bytes sum to 0 and its three values are
sign-extended 12-bit counts, and a slot of a restart gives a missing sample; every slot moves the slot number and the
counters, and a good sample is kept. DISARMED does nothing more; FAULT returns to WATCHING at a sample that leaves the
good run at 16 or more. That the sample does so where a SETTLE_LOST fault was entered with the run there already is
the model's choice (assumption 43). -/
def Obligations.SampleSlotsCounted : Prop :=
  (∀ (b0 b1 b2 b3 b4 b5 b6 : Byte),
    readingSample (.frame b0 b1 b2 b3 b4 b5 b6)
      = (if (b0.toNat + b1.toNat + b2.toNat + b3.toNat + b4.toNat + b5.toNat + b6.toNat) % 256 = 0
          ∧ (b1 ++ b0 : BitVec 16) = ((b1 ++ b0 : BitVec 16).setWidth 12).signExtend 16
          ∧ (b3 ++ b2 : BitVec 16) = ((b3 ++ b2 : BitVec 16).setWidth 12).signExtend 16
          ∧ (b5 ++ b4 : BitVec 16) = ((b5 ++ b4 : BitVec 16).setWidth 12).signExtend 16 then
        some { x := (b1 ++ b0 : BitVec 16).toInt, y := (b3 ++ b2 : BitVec 16).toInt, z := (b5 ++ b4 : BitVec 16).toInt }
      else none)
      ∧ readingSample .noAck = none ∧ readingSample .noNewData = none)
  ∧
  (∀ (r : SlotReading) (s : State),
    s.Live ∧ s.req.intake = [] →
    ∃ t, exec (.sampleSlot r) s = .next t ∧
      (let v := if s.motion.restartLeft = 0 then readingSample r else none
      t.motion.slot = s.motion.slot + 1 ∧ t.motion.restartLeft = s.motion.restartLeft - 1
        ∧ t.motion.goodRun = (if v.isSome then min 65535 (s.motion.goodRun + 1) else 0)
        ∧ t.motion.missingRun = (if v.isSome then 0 else min 65535 (s.motion.missingRun + 1))
        ∧ t.motion.goodTotal = (if v.isSome then min 4294967295 (s.motion.goodTotal + 1) else s.motion.goodTotal)
        ∧ t.motion.missingTotal
          = (if v.isSome then s.motion.missingTotal else min 4294967295 (s.motion.missingTotal + 1))
        ∧ t.motion.last = v.getD s.motion.last
        ∧ t.motion.lastTime = (if v.isSome then s.time else s.motion.lastTime)))
  ∧
  (∀ (r : SlotReading) (s : State),
    s.Live ∧ s.motion.state = .disarmed →
    ∃ t, exec (.sampleSlot r) s = .next t ∧
      t = { s with motion := s.motion.afterSlot (if s.motion.restartLeft = 0 then readingSample r else none) s.time })
  ∧
  (∀ (r : SlotReading) (s : State),
    s.Live ∧ s.motion.state = .fault →
    ∃ t, exec (.sampleSlot r) s = .next t ∧
      (let m := s.motion.afterSlot (if s.motion.restartLeft = 0 then readingSample r else none) s.time
      State.Settled
        (if m.goodRun < 16 then { s with motion := m }
        else
          (raise .motionRecovered (le 4 (s.time - s.motion.faultStart).toNat ++ le 2 s.motion.restartCount)
            { s with motion := { m with state := .watching, candidate := none } }).touch .motion) t))

/-- SAMPLE_SLOT in WATCHING (R107, R108, R119): the candidate run takes the sample; at length N it qualifies, which
makes the fall record, parks, begins the shock hold (R24) and raises FREE_FALL; a missing run of 8 enters FAULT. -/
def Obligations.WatchingJudged : Prop :=
  (∀ (r : SlotReading) (s : State),
    s.Live ∧ s.motion.state = .watching →
    ∃ t, exec (.sampleSlot r) s = .next t ∧
      (let v := if s.motion.restartLeft = 0 then readingSample r else none
      let m := s.motion.afterSlot v s.time
      let run := s.motion.runAfter v
      if run.any (fun k => decide (s.motion.thresholds.n ≤ k.length)) = true then
        State.Settled
          (raise .freeFall
            (le 4 m.nextDrop ++ le 1 s.src.power.code ++ le 1 m.thresholds.f ++ le 1 m.thresholds.n)
            ({ s with
              motion := { m with
                state := .falling
                candidate := none
                parkTimer := none
                nextDrop := if m.nextDrop = 4294967295 then 1 else m.nextDrop + 1
                fall := run.map (fun (k : Candidate) => {
                  sequence := m.nextDrop, startSlot := k.first, time := s.time, clock := s.clock.seconds,
                  clockSet := s.clock.set, power := s.src.power, f := m.thresholds.f, i := m.thresholds.i,
                  settle := m.thresholds.settle, alert := m.thresholds.alert, outcome := none, outcomeSlot := 0,
                  caught := 0, settleTimer := { start := 0, len := 0 }, peak := 0, peakAt := { x := 0, y := 0, z := 0 },
                  settleLost := false : Fall }) }
              src := { s.src with
                hold := true
                interrupted := []
                bayA := { s.src.bayA with heldMs := 0, heldSince := none, outcome := none }
                bayB := { s.src.bayB with heldMs := 0, heldSince := none, outcome := none } } }.touch .motion)) t
      else if m.missingRun < 8 then t = { s with motion := { m with candidate := run } }
      else
        State.Settled
          ((raise .motionFault (le 1 MotionCause.watchLost.code ++ le 3 m.missingTotal ++ leBytes 4 m.lastTime.toNat)
            { s with
              motion := { m with
                state := .fault, candidate := none, restartCount := 0, faultStart := s.time,
                restartBase := s.time } }).touch .motion) t))

/-- SAMPLE_SLOT in FALLING and SETTLING (R109, R110, R114): impact, catch at the fortieth middle sample, loss at the
eighth missing sample, abandonment at offset 800, each with its outcome slot, and the peak; the loss ends the hold
(R27) and the fall in the same event. -/
def Obligations.FallsJudged : Prop :=
  (∀ (r : SlotReading) (f : Fall) (s : State),
    s.Live ∧ s.motion.state = .falling ∧ s.motion.fall = some f
      ∧ ¬((readingSample r = none ∨ s.motion.restartLeft ≠ 0) ∧ 7 ≤ s.motion.missingRun) →
    ∃ t, exec (.sampleSlot r) s = .next t ∧
      (let v := if s.motion.restartLeft = 0 then readingSample r else none
      let m := s.motion.afterSlot v s.time
      let impact := v.any (fun x => decide (f.i * f.i ≤ x.square)) = true
      let middle := v.any (fun x => decide (f.f * f.f ≤ x.square ∧ x.square < f.i * f.i)) = true
      let caught := if middle then f.caught + 1 else 0
      let ended (o : DropOutcome) (slot : BitVec 32) (n : Nat) : State := { s with
        motion := { m with
          state := .settling
          fall := some { f with
            outcome := some o
            outcomeSlot := slot
            caught := n
            peak := (v.map Sample.square).getD 0
            peakAt := v.getD { x := 0, y := 0, z := 0 }
            settleTimer := { start := s.time, len := f.settle } } } }.touch .motion
      if impact then State.Settled (ended .impact m.slot f.caught) t
      else if 40 ≤ caught then State.Settled (ended .caught (m.slot - 39) 40) t
      else if (m.slot - f.startSlot).toNat = 800 then State.Settled (ended .abandoned (f.startSlot + 800) caught) t
      else t = { s with motion := { m with fall := some { f.peakOver v with caught := caught } } }))
  ∧
  (∀ (r : SlotReading) (f : Fall) (s : State),
    s.Live ∧ s.motion.state = .falling ∧ s.motion.fall = some f ∧ s.req.intake = []
      ∧ (readingSample r = none ∨ s.motion.restartLeft ≠ 0) ∧ 7 ≤ s.motion.missingRun →
    ∃ t, exec (.sampleSlot r) s = .next t ∧
      (t.motion.fall = some { f with outcome := some .sensorLost, outcomeSlot := s.motion.slot - 6, caught := 0 }
        ∧ t.motion.state = (if s.motion.disarmPending then .disarmed else .fault)
        ∧ t.motion.parkTimer = some { start := s.time, len := s.motion.thresholds.park }
        ∧ t.src.hold = false ∧ t.parkAsserted = true ∧ t.src.listOut.isSome = true
        ∧ (s.motion.disarmPending = false → (t.notices[18]).fresh = true
          ∧ (t.notices[18]).payload = le 1 MotionCause.fallLost.code
            ++ le 3 (min 4294967295 (s.motion.missingTotal + 1)) ++ leBytes 4 s.motion.lastTime.toNat)))
  ∧
  (∀ (r : SlotReading) (f : Fall) (s : State),
    s.Live ∧ s.motion.state = .settling ∧ s.motion.fall = some f →
    ∃ t, exec (.sampleSlot r) s = .next t ∧
      (let v := if s.motion.restartLeft = 0 then readingSample r else none
      let m := s.motion.afterSlot v s.time
      t = { s with
        motion := { m with
          fall := some { f.peakOver v with settleLost := f.settleLost || (v.isNone && decide (8 ≤ m.missingRun)) } } }))

/-- SETTLE_END (R111, R27, R115): nothing before its time; it ends the hold, hands over the interruption list, settles
every HELD bay, applies the accepted latch level of every bay as if just accepted (SEATED and QUALIFYING by the level,
READY and SWAP_PREPARED with it open RELEASING, RELEASING with it closed returned, FEEDING with it open by the
unplanned release), runs source selection if the deferred-selection flag was set and clears it, runs charge selection,
starts the park hold and gives the next motion state. What becomes of each latch is stated where a bay with its
latch-open flag set is FEEDING, which `PowerLawsKept` keeps. That the hold is over for the selections of these latches is the
model's choice (assumption 39). LINK_RESTART (R105): every 1,000 ms in FAULT, for four slots, unless the good run
stands at 16. PARK_HOLD_EXPIRY (R115) leaves PARK# to the motion state. INTERRUPTION_LIST_ARRIVAL (R113, R117, R118)
completes the drop record: its table place, its DROP record, DROP_RECORDED, and a DROP group for an impact at or above
the alert height. Where the shared byte of DROP_RECORDED stands is the model's choice (assumption 44). -/
def Obligations.FallEnds : Prop :=
  (∀ (s : State),
    s.Live ∧ ¬(s.motion.state = .settling
      ∧ s.motion.fall.any (fun f => decide (f.settleTimer.len ≤ (s.time - f.settleTimer.start).toNat)) = true) →
    ∃ t, exec .settleEnd s = .next t ∧
      t = s)
  ∧
  (∀ (f : Fall) (s : State),
    s.Live ∧ s.motion.state = .settling ∧ s.motion.fall = some f
      ∧ f.settleTimer.len ≤ (s.time - f.settleTimer.start).toNat ∧ s.req.intake = [] →
    ∃ t, exec .settleEnd s = .next t ∧
      (t.src.hold = false ∧ t.motion.fall = some f
        ∧ t.motion.state = (if s.motion.disarmPending then .disarmed else if f.settleLost then .fault else .watching)
        ∧ t.motion.candidate = none ∧ t.motion.disarmPending = false
        ∧ t.motion.parkTimer = some { start := s.time, len := s.motion.thresholds.park }
        ∧ t.src.listOut = some (s.src.interrupted.map (fun b => {
          bay := b
          outcome := if (s.bay b).state = .held ∧ (s.bay b).present.acc = true then .returned
            else (s.bay b).outcome.getD .removed
          heldMs := match (s.bay b).heldSince with
            | none => (s.bay b).heldMs
            | some c => min 65535 ((s.bay b).heldMs + (s.time - c).toNat) }))
        ∧ (∀ b ∈ [BayId.bayA, BayId.bayB], (s.bay b).state = .held →
          (t.bay b).state = (if (s.bay b).present.acc = false then .empty
            else if (s.bay b).latch.acc then .qualifying else .seated))
        ∧ t.src.deferred = false
        ∧ (s.motion.disarmPending = true → s.req.actMotion.all (fun e => decide (t.entry e = .done)) = true)))
  ∧
  (∀ (b : BayId) (f : Fall) (s : State),
    s.Live ∧ s.motion.state = .settling ∧ s.motion.fall = some f
      ∧ f.settleTimer.len ≤ (s.time - f.settleTimer.start).toNat ∧ ¬s.Prepares b ∧ s.LatchLaw →
    ∃ t, exec .settleEnd s = .next t ∧
      (((s.bay b).state = .seated ∨ (s.bay b).state = .qualifying →
          (t.bay b).state = if (s.bay b).latch.acc then .qualifying else .seated)
        ∧ ((s.bay b).state = .swapPrepared ∧ (s.bay b).latch.acc = false →
          (t.bay b).state = .releasing ∧ (t.bay b).prior = some .swapPrepared)
        ∧ ((s.bay b).state = .releasing ∧ (s.bay b).latch.acc = false → t.bay b = { s.bay b with
          heldSince := none, heldMs := (t.bay b).heldMs, chargeSel := (t.bay b).chargeSel })
        ∧ ((s.bay b).state = .releasing ∧ (s.bay b).latch.acc = true →
          (t.bay b).state = .swapPrepared ∨ (t.bay b).state = .ready ∨ (t.bay b).state = .feeding)
        ∧ ((s.bay b).latch.acc = false ∧ ((s.bay b).state = .ready ∨ (s.bay b).state = .feeding ∧ s.src.feeding = b.feed) →
          (t.bay b).state = .releasing ∧ (t.bay b).prior = some .ready
            ∨ (t.bay b).state = .feeding ∧ (t.bay b).latchOpen = true ∧ t.src.feeding = b.feed)))
  ∧
  (∀ (b : BayId) (f : Fall) (s : State),
    s.Live ∧ s.motion.state = .settling ∧ s.motion.fall = some f
      ∧ f.settleTimer.len ≤ (s.time - f.settleTimer.start).toNat ∧ ¬s.Prepares b ∧ (s.bay b).state = .feeding
      ∧ s.src.feeding = b.feed ∧ (s.bay b).latchOpen = false ∧ (s.bay b).latch.acc = false
      ∧ (s.bay b.other).state = .empty →
    ∃ t, exec .settleEnd s = .next t ∧
      (let source := if s.src.dcPresent = true then .dc
        else if s.src.bridgeMonitor ≠ .low ∧ s.src.cutoff = false ∧ s.src.exhLatch = false then .bridge else b.feed
      t.src.feeding = source ∧ (t.bay b).state = (if source = b.feed then .feeding else .releasing)
        ∧ (t.notices[4]).fresh = true
        ∧ (t.notices[4]).payload
          = le 1 b.code ++ [if source = b.feed then 1 else 0] ++ le 1 source.code ++ [0, 0, 0, 0, 0]))
  ∧
  (∀ (b : BayId) (f : Fall) (s : State),
    s.Live ∧ s.motion.state = .settling ∧ s.motion.fall = some f
      ∧ f.settleTimer.len ≤ (s.time - f.settleTimer.start).toNat ∧ (s.bay b).state = .ready
      ∧ (s.bay b).depleted = false ∧ (s.bay b).latchOpen = false ∧ (s.bay b).latch.acc = true
      ∧ (s.bay b.other).state = .empty ∧ s.src.feeding = .bridge →
    ∃ t, exec .settleEnd s = .next t ∧
      (t.src.feeding = (if s.src.deferred then (if s.src.dcPresent then .dc else b.feed) else .bridge)
        ∧ (t.bay b).state = (if t.src.feeding = b.feed then .feeding else .ready)
        ∧ (t.bay b).chargeSel = (s.src.dcPresent
          && ((s.bay b).chargeSel || (!(s.bay b.other).chargeSel && decide (s.soc b < 100))))))
  ∧
  (∀ (s : State),
    s.Live ∧ ¬(s.motion.state = .fault ∧ 1000 ≤ (s.time - s.motion.restartBase).toNat) →
    ∃ t, exec .linkRestart s = .next t ∧
      t = s)
  ∧
  (∀ (s : State),
    s.Live ∧ s.motion.state = .fault ∧ 1000 ≤ (s.time - s.motion.restartBase).toNat →
    ∃ t, exec .linkRestart s = .next t ∧
      t = { s with
        motion := { s.motion with
          restartBase := s.motion.restartBase + 1000
          restartLeft := if 16 ≤ s.motion.goodRun then s.motion.restartLeft else 4
          restartCount := if 16 ≤ s.motion.goodRun then s.motion.restartCount
            else min 65535 (s.motion.restartCount + 1) } })
  ∧
  (∀ (s : State),
    s.Live ∧ s.motion.parkTimer.all (fun x => decide ((s.time - x.start).toNat < x.len)) = true →
    ∃ t, exec .parkHoldExpiry s = .next t ∧
      t = s)
  ∧
  (∀ (s : State),
    s.Live ∧ s.motion.parkTimer.any (fun x => decide (x.len ≤ (s.time - x.start).toNat)) = true →
    ∃ t, exec .parkHoldExpiry s = .next t ∧
      (t = { s with motion.parkTimer := none }
        ∧ t.parkAsserted = decide (s.motion.state = .falling ∨ s.motion.state = .settling)))
  ∧
  (∀ (s : State),
    s.Live ∧ (s.src.listOut = none ∨ s.motion.fall = none) →
    ∃ t, exec .interruptionListArrival s = .next t ∧
      t = s)
  ∧
  (∀ (f : Fall) (l : List Interruption) (s : State),
    s.Live ∧ s.src.listOut = some l ∧ s.motion.fall = some f ∧ s.req.actDisplay = none ∧ s.Room 1 →
    ∃ t, exec .interruptionListArrival s = .next t ∧
      (let u := raise .dropRecorded (f.noticePayload l)
        (({ s with
          src.listOut := none
          motion.fall := none
          motion.lastDrop := f.sequence
          hist.list := s.hist.list
            ++ [{ kind := .drop, clockUnset := !f.clockSet, clock := f.clock, payload := f.payload l : HistRecord }] }).xwrite
          (0x0A00 + 64 * ((f.sequence - 1) % 8)) (f.place l))
      State.Settled
        (if f.outcome = some .impact ∧ f.alert ≤ heightOf f.ms then
          giveGroup
            { cls := .drop, count := 3, onMs := 100, offMs := 100, completed := 0, phaseOn := false, phaseStart := 0,
              entry := none, flags := 0 } u
        else u) t))

/-! ## The history array -/

/-- PROGRAM_COMPLETION (R129, R131, R134, R135, R143): nothing with no program running; a slot that reads back as
meant stores its record, the head moves on, and the next record's program starts at the next erased slot; a NOTE's
finishes its request OK; a failed program leaves the bytes read back in the slot, and the record is tried again with
the retried flag, or lost at the third try, when a NOTE's request finishes BUSY with 3 tries and the last sequence
number, tries in one byte (the model's choice, assumption 12), and no notice; the end of storing the record of
sequence 4,294,967,295, stored or lost at once, puts the unit in FAULT with cause SEQUENCE (R132, R141); from slot 31
the head enters the next sector and erases it first if it holds a written slot. HISTORY_WRAP's highest sequence 0 for
a sector with no VALID record is DEDUCED (assumption 41), as is a next sequence number past 4,294,967,295 (assumption
32). -/
def Obligations.ProgramCompletes : Prop :=
  (∀ (cells : Option (List Byte)) (s : State),
    s.Live ∧ s.hist.runsProgram = false →
    ∃ t, exec (.programCompletion cells) s = .next t ∧
      t = s)
  ∧
  (∀ (cells : Option (List Byte)) (sector slot seq : Nat) (image : List Byte) (r : HistRecord) (s : State),
    s.Live ∧ s.hist.op = .program sector slot seq image ∧ s.hist.Clear ∧ s.hist.list = [r] ∧ s.hist.note = none
      ∧ s.hist.headSlot < 31 ∧ seq ≠ 4294967295 ∧ (cells = none ∨ cells = some image) ∧ image.length = 64 →
    ∃ t, exec (.programCompletion cells) s = .next t ∧
      State.Settled ({ s with
        hist.array := memWriteBytes arrayDefault s.hist.array (2048 * sector + 64 * slot) image
        hist.op := .idle
        hist.headSlot := s.hist.headSlot + 1
        hist.tries := 0
        hist.list := [] }.touch .part) t)
  ∧
  (∀ (seq : Nat) (image : List Byte) (r r2 : HistRecord) (more : List HistRecord) (s : State),
    s.Live ∧ s.hist.op = .program s.hist.headSector s.hist.headSlot seq image ∧ s.hist.Clear
      ∧ s.hist.list = r :: r2 :: more ∧ s.hist.note = none ∧ s.hist.headSlot < 31 ∧ seq ≠ 4294967295
      ∧ image.length = 64 ∧ slotErased (s.hist.slotBytes s.hist.headSector (s.hist.headSlot + 1)) = true →
    ∃ t, exec (.programCompletion none) s = .next t ∧
      State.Settled ({ s with
        hist.array := memWriteBytes arrayDefault s.hist.array (2048 * s.hist.headSector + 64 * s.hist.headSlot) image
        hist.op := .program s.hist.headSector (s.hist.headSlot + 1) s.hist.nextSeq
          (recordImage r2 s.hist.nextSeq false)
        hist.nextSeq := s.hist.nextSeq + 1
        hist.headSlot := s.hist.headSlot + 1
        hist.tries := 0
        hist.list := r2 :: more }.touch .part) t)
  ∧
  (∀ (sector slot seq : Nat) (image : List Byte) (n : Note) (e : EntryId) (s : State),
    s.Live ∧ s.hist.op = .program sector slot seq image ∧ s.hist.Clear ∧ s.hist.list = [] ∧ s.hist.note = some n
      ∧ n.started = true ∧ s.req.actHistory = some e ∧ s.req.intake = [] ∧ s.hist.headSlot < 31 ∧ seq ≠ 4294967295
      ∧ image.length = 64 →
    ∃ t, exec (.programCompletion none) s = .next t ∧
      State.Served ({ s with
        hist.array := memWriteBytes arrayDefault s.hist.array (2048 * sector + 64 * slot) image
        hist.op := .idle
        hist.headSlot := s.hist.headSlot + 1
        hist.tries := 0
        hist.note := none
        req.actHistory := none }.touch .part) t e .ok 0 (le 4 seq ++ le 1 sector ++ le 1 slot))
  ∧
  (∀ (bs : List Byte) (seq : Nat) (image : List Byte) (r : HistRecord) (rest : List HistRecord) (s : State),
    s.Live ∧ s.hist.op = .program s.hist.headSector s.hist.headSlot seq image ∧ s.hist.Clear
      ∧ s.hist.list = r :: rest ∧ s.hist.note = none ∧ s.hist.tries < 2 ∧ s.hist.headSlot < 31 ∧ seq ≠ 4294967295
      ∧ bs.length = 64 ∧ bs ≠ image ∧ slotErased (s.hist.slotBytes s.hist.headSector (s.hist.headSlot + 1)) = true →
    ∃ t, exec (.programCompletion (some bs)) s = .next t ∧
      State.Settled ({ s with
        hist.array := memWriteBytes arrayDefault s.hist.array (2048 * s.hist.headSector + 64 * s.hist.headSlot) bs
        hist.op := .program s.hist.headSector (s.hist.headSlot + 1) s.hist.nextSeq
          (recordImage r s.hist.nextSeq true)
        hist.nextSeq := s.hist.nextSeq + 1
        hist.headSlot := s.hist.headSlot + 1
        hist.tries := s.hist.tries + 1 }.touch .part) t)
  ∧
  (∀ (bs : List Byte) (sector slot seq : Nat) (image : List Byte) (r : HistRecord) (s : State),
    s.Live ∧ s.hist.op = .program sector slot seq image ∧ s.hist.Clear ∧ s.hist.list = [r] ∧ s.hist.note = none
      ∧ s.hist.tries = 2 ∧ s.hist.headSlot < 31 ∧ seq ≠ 4294967295 ∧ bs.length = 64 ∧ bs ≠ image →
    ∃ t, exec (.programCompletion (some bs)) s = .next t ∧
      State.Settled (raise .historyLost (le 1 r.kind.code ++ [1] ++ le 2 (min 65535 (s.hist.lost + 1)))
        ({ s with
          hist.array := memWriteBytes arrayDefault s.hist.array (2048 * sector + 64 * slot) bs
          hist.op := .idle
          hist.headSlot := s.hist.headSlot + 1
          hist.tries := 0
          hist.lost := min 65535 (s.hist.lost + 1)
          hist.list := [] }.touch .part)) t)
  ∧
  (∀ (bs : List Byte) (sector slot seq : Nat) (image : List Byte) (n : Note) (e : EntryId) (s : State),
    s.Live ∧ s.hist.op = .program sector slot seq image ∧ s.hist.Clear ∧ s.hist.list = [] ∧ s.hist.note = some n
      ∧ n.started = true ∧ s.req.actHistory = some e ∧ s.req.intake = [] ∧ s.hist.tries = 2 ∧ s.hist.headSlot < 31
      ∧ seq ≠ 4294967295 ∧ bs.length = 64 ∧ bs ≠ image →
    ∃ t, exec (.programCompletion (some bs)) s = .next t ∧
      State.Served ({ s with
        hist.array := memWriteBytes arrayDefault s.hist.array (2048 * sector + 64 * slot) bs
        hist.op := .idle
        hist.headSlot := s.hist.headSlot + 1
        hist.tries := 0
        hist.note := none
        req.actHistory := none }.touch .part) t e .busy 0 ([3] ++ le 4 seq))
  ∧
  (∀ (sector slot : Nat) (image : List Byte) (r : HistRecord) (rest : List HistRecord) (s : State),
    s.Live ∧ s.HistoryLaw ∧ s.hist.op = .program sector slot 4294967295 image ∧ s.hist.Clear
      ∧ s.hist.list = r :: rest ∧ s.hist.note = none ∧ s.req.intake = [] ∧ s.req.actHistory = none
      ∧ image.length = 64 →
    ∃ t, exec (.programCompletion none) s = .next t ∧
      (t.hist.fault = some .sequence ∧ t.hist.list = [] ∧ t.hist.op = .idle ∧ t.hist.eraseDue = false
        ∧ t.hist.array = memWriteBytes arrayDefault s.hist.array (2048 * sector + 64 * slot) image
        ∧ t.hist.lost = min 65535 (s.hist.lost + rest.length)
        ∧ (t.notices[21]).fresh = true
        ∧ (t.notices[21]).payload = [2, 0] ++ le 2 s.hist.lost ++ [0, 0, 0, 0]
        ∧ (rest = [] → t.notices[22] = s.notices[22])))
  ∧
  (∀ (bs : List Byte) (sector slot : Nat) (image : List Byte) (r : HistRecord) (rest : List HistRecord) (s : State),
    s.Live ∧ s.HistoryLaw ∧ s.hist.op = .program sector slot 4294967295 image ∧ s.hist.Clear
      ∧ s.hist.list = r :: rest ∧ s.hist.note = none ∧ s.req.intake = [] ∧ s.req.actHistory = none
      ∧ bs.length = 64 ∧ bs ≠ image →
    ∃ t, exec (.programCompletion (some bs)) s = .next t ∧
      (let lost := min 65535 (s.hist.lost + 1)
      t.hist.fault = some .sequence ∧ t.hist.list = [] ∧ t.hist.op = .idle ∧ t.hist.eraseDue = false
        ∧ t.hist.array = memWriteBytes arrayDefault s.hist.array (2048 * sector + 64 * slot) bs
        ∧ t.hist.lost = min 65535 (lost + rest.length)
        ∧ (t.notices[21]).fresh = true ∧ (t.notices[21]).payload = [2, 0] ++ le 2 lost ++ [0, 0, 0, 0]
        ∧ (rest = [] → (t.notices[22]).payload = le 1 r.kind.code ++ [1] ++ le 2 lost ++ [0, 0, 0, 0])))
  ∧
  (∀ (sector slot seq : Nat) (image : List Byte) (r : HistRecord) (s : State),
    s.Live ∧ s.hist.op = .program sector slot seq image ∧ s.hist.Clear ∧ s.hist.list = [r] ∧ s.hist.note = none
      ∧ 31 ≤ s.hist.headSlot ∧ seq ≠ 4294967295 ∧ image.length = 64 ∧ slot < 32
      ∧ sector ≠ (s.hist.headSector + 1) % s.hist.boundary →
    ∃ t, exec (.programCompletion none) s = .next t ∧
      (let next := (s.hist.headSector + 1) % s.hist.boundary
      let blank := (List.range 2048).all (fun k => s.hist.byte (2048 * next + k) == 0xFF)
      let held := s.hist.valid.filter (fun x => x.1 == next)
      t.hist.headSector = next ∧ t.hist.headSlot = 0 ∧ t.hist.list = [] ∧ t.hist.eraseDue = false
        ∧ t.hist.op = (if blank = true then .idle else .erase next 1 s.time)
        ∧ (∀ k, k < 2048 → t.hist.byte (2048 * next + k) = 0xFF)
        ∧ (blank = false → (t.notices[20]).fresh = true
          ∧ (t.notices[20]).payload = le 1 next ++ le 1 held.length ++ le 4 (highestSeq held) ++ [0, 0])))

/-- ERASE_COMPLETION and ERASE_TIMEOUT (R130, R139, R141): nothing with no erase running, or before 120 ms; an erase
that reads back blank in time is complete, and a record that waits is programmed; completing the erase that the
start-up scan called for ends the scan, with FAULT for the last sequence number found; a failed first attempt starts a
second; a failed second attempt leaves the cells as they are and puts the unit in FAULT, which loses every record of
the list and ends a scan. That a second attempt raises no second HISTORY_WRAP, and that an erase counts as the scan's
until it ends, is the model's choice (assumption 14). -/
def Obligations.EraseCompletes : Prop :=
  (∀ (cells : Option (List Byte)) (s : State),
    s.Live ∧ s.hist.runsErase = false →
    ∃ t, exec (.eraseCompletion cells) s = .next t ∧
      t = s)
  ∧
  (∀ (sector attempt : Nat) (start : Time) (s : State),
    s.Live ∧ s.hist.op = .erase sector attempt start ∧ (s.time - start).toNat ≤ 120 ∧ s.hist.Clear
      ∧ s.hist.list = [] ∧ s.hist.note = none →
    ∃ t, exec (.eraseCompletion none) s = .next t ∧
      t = { s with hist.op := .idle })
  ∧
  (∀ (sector attempt : Nat) (start : Time) (r : HistRecord) (rest : List HistRecord) (s : State),
    s.Live ∧ s.hist.op = .erase sector attempt start ∧ (s.time - start).toNat ≤ 120 ∧ s.hist.Clear
      ∧ s.hist.list = r :: rest ∧ s.hist.note = none ∧ s.hist.tries = 0
      ∧ slotErased (s.hist.slotBytes s.hist.headSector s.hist.headSlot) = true →
    ∃ t, exec (.eraseCompletion none) s = .next t ∧
      State.Settled ({ s with
        hist.op := .program s.hist.headSector s.hist.headSlot s.hist.nextSeq (recordImage r s.hist.nextSeq false)
        hist.nextSeq := s.hist.nextSeq + 1 }.touch .part) t)
  ∧
  (∀ (sector attempt : Nat) (start : Time) (r : HistRecord) (rest : List HistRecord) (s : State),
    s.Live ∧ s.hist.op = .erase sector attempt start ∧ (s.time - start).toNat ≤ 120 ∧ s.hist.scanning = true
      ∧ s.hist.nextSeq ≠ 0 ∧ s.hist.fault = none ∧ s.hist.eraseDue = false ∧ s.hist.note = none
      ∧ s.hist.protect = none ∧ s.hist.list = r :: rest ∧ s.hist.tries = 0 ∧ s.req.intake = []
      ∧ slotErased (s.hist.slotBytes s.hist.headSector s.hist.headSlot) = true →
    ∃ t, exec (.eraseCompletion none) s = .next t ∧
      State.Settled ({ s with
        hist.scanning := false
        hist.op := .program s.hist.headSector s.hist.headSlot s.hist.nextSeq (recordImage r s.hist.nextSeq false)
        hist.nextSeq := s.hist.nextSeq + 1 }.touch .part) t)
  ∧
  (∀ (sector attempt : Nat) (start : Time) (s : State),
    s.Live ∧ s.HistoryLaw ∧ s.hist.op = .erase sector attempt start ∧ (s.time - start).toNat ≤ 120
      ∧ s.hist.scanning = true ∧ s.hist.nextSeq = 0 ∧ s.req.intake = [] →
    ∃ t, exec (.eraseCompletion none) s = .next t ∧
      (s.FaultedTo t .sequence ∧ t.hist.scanning = false
        ∧ (t.notices[21]).payload = [2, 0] ++ le 2 s.hist.lost ++ [0, 0, 0, 0]))
  ∧
  (∀ (bs : List Byte) (sector : Nat) (start : Time) (s : State),
    s.Live ∧ s.hist.op = .erase sector 1 start ∧ (bs.take 2048).any (fun b => b != 0xFF) = true →
    ∃ t, exec (.eraseCompletion (some bs)) s = .next t ∧
      t = { s with hist.op := .erase sector 2 s.time })
  ∧
  (∀ (bs : List Byte) (sector : Nat) (start : Time) (s : State),
    s.Live ∧ s.HistoryLaw ∧ s.req.intake = [] ∧ s.hist.op = .erase sector 2 start
      ∧ (bs.take 2048).any (fun b => b != 0xFF) = true →
    ∃ t, exec (.eraseCompletion (some bs)) s = .next t ∧
      (s.FaultedTo t .erase ∧ t.hist.scanning = false
        ∧ (t.notices[21]).payload = [0, BitVec.ofNat 8 sector] ++ le 2 s.hist.lost ++ [0, 0, 0, 0]
        ∧ (∀ k, k < 2048 → t.hist.byte (2048 * sector + k) = bs.getD k 0xFF)))
  ∧
  (∀ (bs : List Byte) (s : State),
    s.Live ∧ ¬(s.hist.runsErase = true ∧ 120 ≤ (s.time - s.hist.eraseStart).toNat) →
    ∃ t, exec (.eraseTimeout bs) s = .next t ∧
      t = s)
  ∧
  (∀ (bs : List Byte) (sector : Nat) (start : Time) (s : State),
    s.Live ∧ s.hist.op = .erase sector 1 start ∧ 120 ≤ (s.time - start).toNat →
    ∃ t, exec (.eraseTimeout bs) s = .next t ∧
      t = { s with hist.op := .erase sector 2 s.time })
  ∧
  (∀ (bs : List Byte) (sector : Nat) (start : Time) (s : State),
    s.Live ∧ s.HistoryLaw ∧ s.req.intake = [] ∧ s.hist.op = .erase sector 2 start ∧ 120 ≤ (s.time - start).toNat →
    ∃ t, exec (.eraseTimeout bs) s = .next t ∧
      (s.FaultedTo t .erase ∧ t.hist.scanning = false
        ∧ (t.notices[21]).payload = [0, BitVec.ofNat 8 sector] ++ le 2 s.hist.lost ++ [0, 0, 0, 0]
        ∧ (∀ k, k < 2048 → t.hist.byte (2048 * sector + k) = bs.getD k 0xFF)))

/-- BOUNDARY_STEP_COMPLETION (R137, R138): nothing with no step running; the step's marks are added to the field; at
the requested boundary the BOUNDARY record is handed over and the request finishes OK with the new boundary and the
head; at another the step is made once more, and after the second one the request finishes FAULT and the unit enters
FAULT. START_UP_SCAN_END (R139, R140, R141): nothing with no scan running, or while its erase runs; the boundary is
that of the field, the next sequence number follows the highest VALID one, the head is that of step 5, and the RESTART
record is completed. Where the head calls for no erase, the scan is over and the RESTART record's program starts at
the head, or, with 4,294,967,295 found, the unit enters FAULT SEQUENCE. With an erase called for the scan goes on
through it, HISTORY_WRAP is raised and the RESTART record waits; that the scan lasts until this erase ends is the
model's choice (assumption 14). That the second step starts at once is another (assumption 40), and so is that the
BOUNDARY record of a second step gives the boundary before the first as the previous one (assumption 48).
HISTORY_WRAP's highest sequence 0 for a sector with no VALID record is DEDUCED (assumption 41), as is a next sequence
number past 4,294,967,295 (assumption 32). -/
def Obligations.StepsAndScanEnd : Prop :=
  (∀ (m : Option (BitVec 55)) (s : State),
    s.Live ∧ s.hist.runsStep = false →
    ∃ t, exec (.boundaryStepCompletion m) s = .next t ∧
      t = s)
  ∧
  (∀ (m : Option (BitVec 55)) (b attempt oldB : Nat) (e : EntryId) (s : State),
    s.Live ∧ s.hist.op = .boundary b attempt oldB ∧ s.req.actHistory = some e ∧ s.req.intake = []
      ∧ s.hist.fault = none ∧ s.hist.list.length < 8 ∧ boundaryOf (s.hist.marksAfter b m) = b →
    ∃ t, exec (.boundaryStepCompletion m) s = .next t ∧
      (let moved := b ≤ s.hist.headSector
      t.hist.marks = s.hist.marksAfter b m ∧ t.hist.boundary = b ∧ t.hist.protect = none
        ∧ t.hist.list = s.hist.list ++ [{
          kind := .boundary, clockUnset := !s.clock.set, clock := s.clock.seconds,
          payload := le 1 oldB ++ le 1 b ++ le 1 s.hist.headSector ++ le 1 s.hist.headSlot
            ++ [if moved then 1 else 0] }]
        ∧ t.req = { s.req with entries := s.req.entries.set e .done, actHistory := none }
        ∧ t.bytesAt (entryBase e + 4) (resultBytes .ok 0
            (if moved then le 1 b ++ [0, 0] else le 1 b ++ le 1 s.hist.headSector ++ le 1 s.hist.headSlot))))
  ∧
  (∀ (m : Option (BitVec 55)) (b oldB : Nat) (s : State),
    s.Live ∧ s.hist.op = .boundary b 1 oldB ∧ boundaryOf (s.hist.marksAfter b m) ≠ b →
    ∃ t, exec (.boundaryStepCompletion m) s = .next t ∧
      t = { s with
        hist.marks := s.hist.marksAfter b m
        hist.boundary := boundaryOf (s.hist.marksAfter b m)
        hist.op := .boundary b 2 oldB })
  ∧
  (∀ (m : Option (BitVec 55)) (b oldB : Nat) (e : EntryId) (s : State),
    s.Live ∧ s.HistoryLaw ∧ s.req.intake = [] ∧ s.hist.op = .boundary b 2 oldB ∧ s.req.actHistory = some e
      ∧ boundaryOf (s.hist.marksAfter b m) ≠ b →
    ∃ t, exec (.boundaryStepCompletion m) s = .next t ∧
      (s.FaultedTo t .boundary ∧ t.hist.marks = s.hist.marksAfter b m
        ∧ t.hist.boundary = boundaryOf (s.hist.marksAfter b m) ∧ t.entry e = .done
        ∧ t.bytesAt (entryBase e + 4) (resultBytes .fault 0 [])))
  ∧
  (∀ (s : State),
    s.Live ∧ (s.hist.scanning = false ∨ s.hist.op ≠ .idle) →
    ∃ t, exec .startUpScanEnd s = .next t ∧
      t = s)
  ∧
  (∀ (s : State),
    s.Live ∧ s.hist.scanning = true ∧ s.hist.op = .idle →
    ∃ t, exec .startUpScanEnd s = .next t ∧
      (t.hist.boundary = boundaryOf s.hist.marks ∧ t.hist.marks = s.hist.marks
        ∧ (t.hist.scanning = true → t.hist.op = .erase t.hist.headSector 1 s.time ∧ t.hist.headSlot = 0)))
  ∧
  (∀ (s : State),
    s.Live ∧ s.hist.scanning = true ∧ s.hist.op = .idle ∧ s.hist.fault = none ∧ s.hist.note = none
      ∧ s.hist.protect = none ∧ s.hist.tries = 0 ∧ s.hist.list = [HistRecord.restart []]
      ∧ s.req.intake = [] ∧ highestSeq s.hist.valid ≠ 4294967295 →
    ∃ t, exec .startUpScanEnd s = .next t ∧
      (t.hist.list.map (fun r => (r.kind, r.clockUnset, r.clock, r.payload.take 9))
          = [(.restart, true, 0, le 1 (boundaryOf s.hist.marks) ++ le 2 s.hist.valid.length
            ++ le 2 s.hist.bad.length ++ le 4 (highestSeq s.hist.valid))]
        ∧ t.hist.op ≠ .idle))
  ∧
  (∀ (sector slot : Nat) (s : State),
    s.Live ∧ s.hist.scanning = true ∧ s.hist.op = .idle ∧ s.hist.fault = none ∧ s.hist.note = none
      ∧ s.hist.protect = none ∧ s.hist.tries = 0 ∧ s.hist.list = [HistRecord.restart []] ∧ s.req.intake = []
      ∧ highestSeq s.hist.valid ≠ 4294967295 ∧ s.headFound sector slot
      ∧ (slot = 0 → ∀ k, k < 2048 → s.hist.byte (2048 * sector + k) = 0xFF) →
    ∃ t, exec .startUpScanEnd s = .next t ∧
      (let r := s.restartFound sector slot false
      let seq := highestSeq s.hist.valid + 1
      State.Settled ({ s with
        hist.scanning := false
        hist.boundary := boundaryOf s.hist.marks
        hist.headSector := sector
        hist.headSlot := slot
        hist.eraseDue := false
        hist.list := [r]
        hist.nextSeq := seq + 1
        hist.op := .program sector slot seq (recordImage r seq false) }.touch .part) t))
  ∧
  (∀ (sector : Nat) (s : State),
    s.Live ∧ s.hist.scanning = true ∧ s.hist.op = .idle ∧ s.hist.list = [HistRecord.restart []]
      ∧ s.headFound sector 0 ∧ (List.range 2048).any (fun k => s.hist.byte (2048 * sector + k) != 0xFF) = true →
    ∃ t, exec .startUpScanEnd s = .next t ∧
      (let held := s.hist.valid.filter (fun x => x.1 = sector)
      t.hist.scanning = true ∧ t.hist.op = .erase sector 1 s.time ∧ t.hist.headSector = sector ∧ t.hist.headSlot = 0
        ∧ t.hist.nextSeq = (if highestSeq s.hist.valid = 4294967295 then 0 else highestSeq s.hist.valid + 1)
        ∧ (∀ a, a < 0x20000 →
            t.hist.byte a = if 2048 * sector ≤ a ∧ a < 2048 * sector + 2048 then 0xFF else s.hist.byte a)
        ∧ t.hist.list = [s.restartFound sector 0 true] ∧ t.req = s.req ∧ (t.notices[20]).fresh = true
        ∧ (t.notices[20]).payload = le 1 sector ++ le 1 held.length ++ le 4 (highestSeq held) ++ [0, 0]))
  ∧
  (∀ (sector slot : Nat) (s : State),
    s.Live ∧ s.hist.scanning = true ∧ s.hist.op = .idle ∧ highestSeq s.hist.valid = 4294967295
      ∧ s.headFound sector slot ∧ (slot = 0 → ∀ k, k < 2048 → s.hist.byte (2048 * sector + k) = 0xFF)
      ∧ s.HistoryLaw ∧ s.req.intake = [] →
    ∃ t, exec .startUpScanEnd s = .next t ∧
      (s.FaultedTo t .sequence ∧ t.hist.scanning = false ∧ t.hist.nextSeq = 0 ∧ t.hist.headSector = sector
        ∧ t.hist.headSlot = slot ∧ t.hist.boundary = boundaryOf s.hist.marks
        ∧ (t.notices[21]).payload = [2, 0] ++ le 2 s.hist.lost ++ [0, 0, 0, 0]))

/-! ## The clock, the live pages, the time-to-empty window -/

/-- SERVICE_CLOCK_ADVANCE (R175), PERIODIC_PAGE_UPDATE and PAGE_UPDATE_END (R184, R185), TTE_SECOND_CLOSE (R63):
nothing before their time; the clock advances by one and its page follows; a periodic timer goes on from its last
expiry with an update; an update's end writes the close count equal to the open count, with no other byte, and begins
the one that waits; a full second's mean joins a window of at most 60 places. What an update writes (12.5): the part
time and every field of the part page (R187, R146), of the power page (R186, R64), of the display page (R86, R102) and
of the motion page (R124), each at its offset with its value at the update, and 0 where no field is. That the fall's
and the fault's fields read 0 with no fall and outside FAULT, and the pulses completed with no active group, are the
model's choices (assumptions 25 and 36), and the next sequence number it shows past 4,294,967,295 is DEDUCED
(assumption 32). -/
def Obligations.ClockPagesAndWindow : Prop :=
  (∀ (s : State),
    s.Live ∧ (s.time - s.clock.base).toNat < 1000 →
    ∃ t, exec .serviceClockAdvance s = .next t ∧
      t = s)
  ∧
  (∀ (s : State),
    s.Live ∧ 1000 ≤ (s.time - s.clock.base).toNat →
    ∃ t, exec .serviceClockAdvance s = .next t ∧
      State.Settled ({ s with clock.seconds := s.clock.seconds + 1, clock.base := s.clock.base + 1000 }.touch .part) t)
  ∧
  (∀ (p : PageId) (s : State),
    s.Live ∧ (p = .part ∨ (s.time - (s.page p).base).toNat < (if p = .power then 1000 else 100)) →
    ∃ t, exec (.periodicPageUpdate p) s = .next t ∧
      t = s)
  ∧
  (∀ (p : PageId) (s : State),
    s.Live ∧ p ≠ .part ∧ (if p = .power then 1000 else 100) ≤ (s.time - (s.page p).base).toNat →
    ∃ t, exec (.periodicPageUpdate p) s = .next t ∧
      State.Settled ((s.setPage p { s.page p with
        base := (s.page p).base + (if p = .power then 1000 else 100) }).touch p) t)
  ∧
  (∀ (p : PageId) (s : State),
    s.Live ∧ (s.page p).busy = false →
    ∃ t, exec (.pageUpdateEnd p) s = .next t ∧
      t = s)
  ∧
  (∀ (p : PageId) (s : State),
    s.Live ∧ (s.page p).busy = true ∧ (s.page p).again = false →
    ∃ t, exec (.pageUpdateEnd p) s = .next t ∧
      (t = { s.setPage p { s.page p with busy := false } with link := { s.link with memory := t.link.memory } }
        ∧ (∀ a, a < 0x2000 → t.xread a = if a = p.closeAt then s.xread p.base
          else if a = p.closeAt + 1 then s.xread (p.base + 1) else s.xread a)))
  ∧
  (∀ (p : PageId) (s : State),
    s.Live ∧ (s.page p).busy = true ∧ (s.page p).again = true ∧ s.link.up = true →
    ∃ t, exec (.pageUpdateEnd p) s = .next t ∧
      (t = { s.setPage p { s.page p with busy := true, again := false } with
          link := { s.link with memory := t.link.memory } }
        ∧ t.bytesAt p.closeAt [s.xread p.base, s.xread (p.base + 1)]
        ∧ t.bytesAt p.base (padTo (p.closeAt - p.base) 0
            (le 2 (if s.openCount p = 65535 then 1 else s.openCount p + 1) ++ leBytes 4 s.time.toNat ++ s.pageFields p))
        ∧ (∀ a, a < 0x2000 → pageByte a = false → t.xread a = s.xread a)))
  ∧
  (∀ (s : State),
    s.Live ∧ s.gauge.secCount < 100 →
    ∃ t, exec .tteSecondClose s = .next t ∧
      t = s)
  ∧
  (∀ (s : State),
    s.Live ∧ 100 ≤ s.gauge.secCount →
    ∃ t, exec .tteSecondClose s = .next t ∧
      t = { s with
        gauge.window := (if s.gauge.window.length < 60 then s.gauge.window else s.gauge.window.drop 1)
          ++ [s.gauge.secSum / 100]
        gauge.secSum := 0
        gauge.secCount := 0 })
  ∧
  (∀ (s : State),
    s.Live ∧ s.link.up = true ∧ s.pages.part.busy = false ∧ 1000 ≤ (s.time - s.clock.base).toNat →
    ∃ t, exec .serviceClockAdvance s = .next t ∧
      (∀ x ∈ ([(2, leBytes 4 s.time.toNat), (6, [0x03, 0x5C]), (8, le 1 s.link.resetCause.code),
          (9, [if s.link.setupTaken then 1 else 0]), (10, leBytes 4 (s.clock.seconds + 1).toNat),
          (14, [if s.clock.set then 1 else 0]), (15, codeOrNone s.hist.mapped), (16, le 2 s.hist.lost),
          (18, leBytes 2 s.link.lastRefused.toNat),
          (20, if s.hist.scanning then [0] else le 1 s.hist.headSector),
          (21, if s.hist.scanning then [0] else le 1 s.hist.headSlot),
          (22, if s.hist.scanning then [0, 0, 0, 0] else le 4 s.hist.nextSeq), (26, List.replicate 228 0)]
            : List (Nat × List Byte)),
        t.bytesAt (0x0000 + x.1) x.2))
  ∧
  (∀ (s : State),
    s.Live ∧ s.link.up = true ∧ s.pages.power.busy = false ∧ 1000 ≤ (s.time - s.pages.power.base).toNat →
    ∃ t, exec (.periodicPageUpdate .power) s = .next t ∧
      (∀ x ∈ [(2, leBytes 4 s.time.toNat)] ++ s.bayEntries 6 .bayA ++ s.bayEntries 38 .bayB
          ++ [(70, le 2 s.src.bridgeMv), (72, le 1 s.src.bridgeMonitor.code),
            (73, le 1 (flagBits [s.src.cutoff, s.src.brChg])), (74, le 2 s.src.dcMv),
            (76, [if s.src.dcPresent then 1 else 0]), (77, le 1 s.src.feeding.code), (78, le 1 s.src.power.code),
            (79, le 1 (flagBits [s.src.exhLatch, s.shutdownRequested])), (80, le 4 (timeLeft s.src.rideTimer s.time)),
            (84, le 1 s.src.policy.code), (85, le 1 s.src.warn), (86, le 1 s.src.sysState.code), (87, [0]),
            (88, leInt 2 s.meanDrain), (90, le 2 s.minutesLeft), (92, List.replicate 162 0)],
        t.bytesAt (0x0700 + x.1) x.2))
  ∧
  (∀ (s : State),
    s.Live ∧ s.link.up = true ∧ s.pages.display.busy = false ∧ 100 ≤ (s.time - s.pages.display.base).toNat →
    ∃ t, exec (.periodicPageUpdate .display) s = .next t ∧
      (∀ x ∈ ([(2, leBytes 4 s.time.toNat), (6, le 1 s.bright.gain.code),
          (7, le 1 (flagBits [s.bright.saturated, s.bright.filterValid])), (8, le 2 s.bright.lastCode),
          (10, le 4 s.bright.rawLux), (14, le 4 s.bright.filtered), (18, le 1 s.bright.origin.code),
          (19, le 1 s.bright.curve.length), (20, le 2 s.bright.curveLevel), (22, le 1 s.bright.mode.code),
          (23, [if s.bright.allowance then 1 else 0]), (24, le 2 s.bright.manual), (26, leInt 2 s.bright.offset),
          (28, le 2 s.bright.request), (30, le 2 s.bright.ceiling), (32, le 2 s.bright.target),
          (34, le 2 s.bright.current), (36, le 2 s.bright.compare), (38, le 1 s.src.power.code),
          (39, le 1 s.src.sysState.code), (40, le 1 s.bright.judgedSoc), (41, le 1 s.bright.reserve),
          (42, le 2 s.bright.battCeil), (44, le 2 s.bright.bridgeCeil), (46, le 4 s.bright.threshold),
          (50, le 1 s.bright.attack), (51, le 1 s.bright.release), (52, le 2 s.bright.ramp), (54, le 1 s.drv.state.code),
          (55, le 1 (flagBits [s.drv.configured, s.drv.swapped, s.drv.inverted])), (56, le 2 s.drv.activeCompare),
          (58, le 2 s.drv.period), (60, codeOrNone (s.drv.active.map (fun g => g.cls.code))),
          (61, le 1 ((s.drv.active.map Group.completed).getD 0)),
          (62, le 1 (flagBits [s.drv.waitSwap.isSome, s.drv.waitDrop.isSome, s.drv.waitHost.isSome])),
          (63, List.replicate 63 0)] : List (Nat × List Byte)),
        t.bytesAt (0x0800 + x.1) x.2))
  ∧
  (∀ (s : State),
    s.Live ∧ s.link.up = true ∧ s.pages.motion.busy = false ∧ 100 ≤ (s.time - s.pages.motion.base).toNat →
    ∃ t, exec (.periodicPageUpdate .motion) s = .next t ∧
      (∀ x ∈ ([(2, leBytes 4 s.time.toNat), (6, le 1 s.motion.state.code),
          (7, le 1 (flagBits [s.motion.disarmPending, s.parkAsserted, s.shockHold])), (8, le 1 s.motion.thresholds.f),
          (9, le 1 s.motion.thresholds.n), (10, le 1 s.motion.thresholds.g), (11, [0]),
          (12, le 2 s.motion.thresholds.i), (14, le 2 s.motion.thresholds.settle), (16, le 2 s.motion.thresholds.park),
          (18, le 2 s.motion.thresholds.alert), (20, le 2 (timeLeft s.motion.parkTimer s.time)),
          (22, leInt 2 s.motion.last.x), (24, leInt 2 s.motion.last.y), (26, leInt 2 s.motion.last.z),
          (28, le 4 s.motion.last.square), (32, leBytes 4 s.motion.lastTime.toNat),
          (36, le 1 ((s.motion.candidate.map Candidate.length).getD 0)),
          (37, le 1 ((s.motion.candidate.map Candidate.gap).getD 0)),
          (38, le 4 ((s.motion.fall.map Fall.sequence).getD 0)),
          (42, le 2 ((s.motion.fall.map (fun f => (s.motion.slot - f.startSlot).toNat)).getD 0)),
          (44, le 1 ((s.motion.fall.map Fall.caught).getD 0)), (45, [0]),
          (46, le 4 ((s.motion.fall.map Fall.peak).getD 0)), (50, le 4 s.motion.goodTotal),
          (54, le 4 s.motion.missingTotal), (58, le 2 s.motion.missingRun), (60, le 2 s.motion.goodRun),
          (62, if s.motion.state = .fault then leBytes 4 s.motion.faultStart.toNat else [0, 0, 0, 0]),
          (66, if s.motion.state = .fault then le 2 s.motion.restartCount else [0, 0]), (68, le 4 s.motion.nextDrop),
          (72, le 4 s.motion.lastDrop), (76, List.replicate 50 0)] : List (Nat × List Byte)),
        t.bytesAt (0x0880 + x.1) x.2))

/-! ## Rules over all values -/

/-- The target of selection (R16), and what selection and a switch-over do with it (R13, R14, R17, R18, R22, R40): a
target that is the member changes nothing; a source is switched to, unless the change is voluntary and a hold stands,
which defers it; with no source the bay to re-engage is taken, the one of higher SoC, ties to A (R46), or the bay that
keeps the load keeps it, or the set is empty; a re-engaged bay feeds with its prepared timer stopped, the exhaustion
latch clear, the power state PACK, no ride-through timer, SWAP_EXPIRED raised with reason EMERGENCY and the SWAP
groups left to end; a switch-over leaves the given member, an empty window, the power state its two facts give, the
ride-through timer running for the bridge alone, and BR_CHG judged. That a bay whose preparation is pending keeps the
load is DEDUCED (assumption 19); that a bay whose latch opened under a hold does not keep it while its latch-open flag
is clear is the model's choice (assumption 45). -/
def Obligations.SelectionTarget : Prop :=
  (∀ (s : State),
    s.target =
      if s.src.dcPresent = true then .dc
      else if s.src.bayA.isEligible ∧ s.src.bayB.isEligible then
        (match s.src.policy with
        | .sequential => .bayA
        | .drainLower =>
          if s.src.feeding = .bayA then .bayA else if s.src.feeding = .bayB then .bayB
          else if s.soc .bayB < s.soc .bayA then .bayB else .bayA
        | .balanced =>
          if s.src.feeding = .bayA then (if s.soc .bayA + 5 ≤ s.soc .bayB then .bayB else .bayA)
          else if s.src.feeding = .bayB then (if s.soc .bayB + 5 ≤ s.soc .bayA then .bayA else .bayB)
          else if s.soc .bayA < s.soc .bayB then .bayB else .bayA)
      else if s.src.bayA.isEligible then .bayA
      else if s.src.bayB.isEligible then .bayB
      else if (s.src.bridgeMonitor ≠ .low ∧ s.src.cutoff = false ∧ s.src.exhLatch = false)
        ∨ (s.src.feeding = .bridge ∧ s.src.cutoff = false) then .bridge
      else .empty)
  ∧
  (∀ (s : State),
    (s.target = s.src.feeding → runSelection s = s)
      ∧ (s.target ≠ s.src.feeding → s.target ≠ .empty →
        (s.src.memberAvailable = false ∨ s.src.feeding = .empty ∨ s.src.power = .exhausted ∨ s.src.hold = false) →
        runSelection s = switchOver s.target s)
      ∧ (s.target ≠ s.src.feeding → s.target ≠ .empty → s.src.memberAvailable = true → s.src.feeding ≠ .empty →
        s.src.power ≠ .exhausted → s.src.hold = true →
        runSelection s = { s with src.deferred := true })
      ∧ (s.target = .empty → s.src.feeding ≠ .empty → ¬s.src.bayA.mayReengage → ¬s.src.bayB.mayReengage →
        runSelection s = if s.src.keepsLoad = true then s else switchOver .empty s)
      ∧ (s.target = .empty → s.src.feeding ≠ .empty → s.src.bayA.mayReengage ∨ s.src.bayB.mayReengage →
        runSelection s = reengage
          (if s.src.bayA.mayReengage ∧ (s.src.bayB.mayReengage → s.soc .bayB ≤ s.soc .bayA) then .bayA else .bayB) s))
  ∧
  (∀ (b : BayId) (s : State),
    (s.bay b).mayReengage →
    (reengage b s).src.feeding = b.feed ∧ ((reengage b s).bay b).state = .feeding
      ∧ ((reengage b s).bay b).prepTimer = none ∧ (reengage b s).src.exhLatch = false
      ∧ (reengage b s).src.power = .pack ∧ (reengage b s).src.rideTimer = none
      ∧ ((reengage b s).notices[5]).fresh = true
      ∧ ((reengage b s).notices[5]).payload = le 1 b.code ++ [1] ++ le 1 BayState.feeding.code ++ [0, 0, 0, 0, 0]
      ∧ (reengage b s).drv.active = s.drv.active ∧ (reengage b s).drv.waitSwap = s.drv.waitSwap)
  ∧
  (∀ (f : Feed) (s : State),
    (switchOver f s).src.feeding = f
      ∧ (switchOver f s).gauge.window = [] ∧ (switchOver f s).gauge.secCount = 0
      ∧ (switchOver f s).PowerLaw ∧ (switchOver f s).BrChgLaw
      ∧ (f = .dc ∨ f = .bayA ∨ f = .bayB → (switchOver f s).src.exhLatch = false)
      ∧ (switchOver f s).src.rideTimer
        = if f = .bridge then some { start := s.time, len := 1000 * s.setup.rideLimit } else none)

/-- The light filter (R70): a valid filter moves toward raw by the rounded-up share of the difference, never past it,
nearer with every sample that differs, at once with a shift of 0, and stays within 0..130,944. The curve (R74): flat
outside its points, and between two of them the straight line, truncated. The drop record's height, peak and peak axis
(R112). -/
def Obligations.FilterCurveAndDropValues : Prop :=
  (∀ (x : Bright) (raw : Nat),
    x.filterValid = true →
    (x.filtered < raw → (x.filter raw).filtered = x.filtered + (raw - x.filtered + 2 ^ x.attack - 1) / 2 ^ x.attack
        ∧ x.filtered < (x.filter raw).filtered ∧ (x.filter raw).filtered ≤ raw)
      ∧ (raw < x.filtered →
        (x.filter raw).filtered = x.filtered - (x.filtered - raw + 2 ^ x.release - 1) / 2 ^ x.release
        ∧ (x.filter raw).filtered < x.filtered ∧ raw ≤ (x.filter raw).filtered)
      ∧ (raw = x.filtered → (x.filter raw).filtered = x.filtered)
      ∧ (x.attack = 0 → x.release = 0 → (x.filter raw).filtered = raw)
      ∧ (raw ≤ 130944 → x.filtered ≤ 130944 → (x.filter raw).filtered ≤ 130944))
  ∧
  (∀ (pts : List (Nat × Nat)) (lux : Nat),
    pts.Pairwise (fun p q => p.1 < q.1 ∧ p.2 ≤ q.2) →
    (∀ p, pts.head? = some p → lux ≤ p.1 → interpolate pts lux = p.2)
      ∧ (∀ p, pts.getLast? = some p → p.1 ≤ lux → interpolate pts lux = p.2)
      ∧ (∀ (i : Nat) (p q : Nat × Nat), pts[i]? = some p → pts[i + 1]? = some q → p.1 ≤ lux → lux < q.1 →
        interpolate pts lux = p.2 + (q.2 - p.2) * (lux - p.1) / (q.1 - p.1)))
  ∧
  (∀ (f : Fall),
    f.peak ≤ 12582912 →
    f.ms = (f.outcomeSlot - f.startSlot).toNat * 5 / 2
      ∧ heightOf f.ms = f.ms * f.ms * 4903 / 1000000
      ∧ (f.ms ≤ 2000 → heightOf f.ms ≤ 19612) ∧ (f.outcomeSlot = f.startSlot + 800 → heightOf f.ms = 19612)
      ∧ (∃ root, root * root ≤ f.peak ∧ f.peak < (root + 1) * (root + 1) ∧ f.peakMg = root * 8 ∧ f.peakMg ≤ 28376)
      ∧ f.axis =
        (let x := f.peakAt.x.natAbs
        let y := f.peakAt.y.natAbs
        let z := f.peakAt.z.natAbs
        let largest := max x (max y z)
        if largest = 0 then 0
        else if x = largest then (if 0 < f.peakAt.x then 1 else 2)
        else if y = largest then (if 0 < f.peakAt.y then 3 else 4)
        else if 0 < f.peakAt.z then 5 else 6))

/-! ## Laws that every step keeps -/

/-- Every step keeps the law of the notice table (R179 to R181), the law of the entries, the intake queue and the
units' ACTIVE requests (R166 to R168), and leaves no work undone (R131, R167, R185, R188). -/
def Obligations.RequestLawsKept : Prop :=
  (∀ (s t : State), s.NoticeLaw → step s = .next t → t.NoticeLaw)
  ∧
  (∀ (s t : State), s.QueueLaw → step s = .next t → t.QueueLaw)
  ∧
  (∀ (s t : State), s.Quiet → s.MemoryLaw → step s = .next t → t.Quiet)

/-- Every step keeps the feeding set and the FEEDING bay one (R13), the power state the one its two facts give (R14),
the shock hold the one of the motion state (6.3), BR_CHG as R22 gives it, the depleted flag of a READY or FEEDING bay
set while its pack monitor is TRIPPED (R9), and the latch-open flag clear in every bay that is not FEEDING (R38, R39). -/
def Obligations.PowerLawsKept : Prop :=
  (∀ (s t : State), s.FeedLaw → step s = .next t → t.FeedLaw)
  ∧
  (∀ (s t : State), s.PowerLaw → step s = .next t → t.PowerLaw)
  ∧
  (∀ (s t : State), s.HoldLaw → step s = .next t → t.HoldLaw)
  ∧
  (∀ (s t : State), s.BrChgLaw → step s = .next t → t.BrChgLaw)
  ∧
  (∀ (s t : State), s.TripLaw → step s = .next t → t.TripLaw)
  ∧
  (∀ (s t : State), s.FeedLaw → s.LatchLaw → step s = .next t → t.LatchLaw)

/-- Every step keeps the level within the ceiling and 0 outside RUN (R79, R84), the compare that of the level (R83,
R93), the backlight DARK exactly while it is held DARK (R89, R90), the active compare 0 outside FRAMING (R88), the gauge
records in their ranges (R51), the settings in theirs (R23, R76, R80, R82, R121, R173), and the memories in canonical
form. -/
def Obligations.ValueLawsKept : Prop :=
  (∀ (s t : State), s.LevelLaw → step s = .next t → t.LevelLaw)
  ∧
  (∀ (s t : State), s.CompareLaw → step s = .next t → t.CompareLaw)
  ∧
  (∀ (s t : State), s.DarkLaw → step s = .next t → t.DarkLaw)
  ∧
  (∀ (s t : State), s.GaugeLaw → step s = .next t → t.GaugeLaw)
  ∧
  (∀ (s t : State), s.SettingsLaw → step s = .next t → t.SettingsLaw)
  ∧
  (∀ (s t : State), s.MemoryLaw → step s = .next t → t.MemoryLaw)

/-- The protected sectors (R127, R134, R136, R137): every step keeps the pending list, the head and the lost count in
their ranges, and the array's work below the protect boundary; the boundary never rises, programmed marks stay, and no
byte of a sector at or above the boundary changes. -/
def Obligations.ProtectedSectorsStay : Prop :=
  (∀ (s t : State), s.HistoryLaw → step s = .next t → t.HistoryLaw)
  ∧
  (∀ (s t : State), s.ProtectLaw → s.MemoryLaw → step s = .next t →
    t.ProtectLaw ∧ t.hist.boundary ≤ s.hist.boundary ∧ s.hist.marks &&& t.hist.marks = s.hist.marks
      ∧ 8 ≤ t.hist.boundary ∧ (∀ a, 2048 * s.hist.boundary ≤ a → t.hist.byte a = s.hist.byte a))

/-- The laws of the statements before this one hold at reset. -/
def Obligations.LawsAtReset : Prop :=
  State.reset.NoticeLaw ∧ State.reset.QueueLaw ∧ State.reset.Quiet ∧ State.reset.FeedLaw ∧ State.reset.PowerLaw
    ∧ State.reset.HoldLaw ∧ State.reset.BrChgLaw ∧ State.reset.TripLaw ∧ State.reset.LatchLaw
    ∧ State.reset.LevelLaw ∧ State.reset.CompareLaw ∧ State.reset.DarkLaw ∧ State.reset.GaugeLaw
    ∧ State.reset.SettingsLaw ∧ State.reset.MemoryLaw ∧ State.reset.HistoryLaw ∧ State.reset.ProtectLaw
end

