-- ==== Sys2Proof/Laws/State.lean ====
section
/-! SUPPORT. The named updates of State: one lemma per field they leave, and what they set. -/

namespace Sys2Proof.Machine

variable (s : State)

@[simp] theorem State.touch_pending (p : PageId) : (s.touch p).pending = s.pending := by cases p <;> rfl
@[simp] theorem State.touch_powered (p : PageId) : (s.touch p).powered = s.powered := by cases p <;> rfl
@[simp] theorem State.touch_time (p : PageId) : (s.touch p).time = s.time := by cases p <;> rfl
@[simp] theorem State.touch_draws (p : PageId) : (s.touch p).draws = s.draws := by cases p <;> rfl
@[simp] theorem State.touch_clock (p : PageId) : (s.touch p).clock = s.clock := by cases p <;> rfl
@[simp] theorem State.touch_setup (p : PageId) : (s.touch p).setup = s.setup := by cases p <;> rfl
@[simp] theorem State.touch_src (p : PageId) : (s.touch p).src = s.src := by cases p <;> rfl
@[simp] theorem State.touch_gauge (p : PageId) : (s.touch p).gauge = s.gauge := by cases p <;> rfl
@[simp] theorem State.touch_bright (p : PageId) : (s.touch p).bright = s.bright := by cases p <;> rfl
@[simp] theorem State.touch_drv (p : PageId) : (s.touch p).drv = s.drv := by cases p <;> rfl
@[simp] theorem State.touch_motion (p : PageId) : (s.touch p).motion = s.motion := by cases p <;> rfl
@[simp] theorem State.touch_hist (p : PageId) : (s.touch p).hist = s.hist := by cases p <;> rfl
@[simp] theorem State.touch_req (p : PageId) : (s.touch p).req = s.req := by cases p <;> rfl
@[simp] theorem State.touch_notices (p : PageId) : (s.touch p).notices = s.notices := by cases p <;> rfl
@[simp] theorem State.touch_routes (p : PageId) : (s.touch p).routes = s.routes := by cases p <;> rfl
@[simp] theorem State.touch_link (p : PageId) : (s.touch p).link = s.link := by cases p <;> rfl

@[simp] theorem State.setPage_pending (p : PageId) (c : PageCtl) : (s.setPage p c).pending = s.pending := by cases p <;> rfl
@[simp] theorem State.setPage_powered (p : PageId) (c : PageCtl) : (s.setPage p c).powered = s.powered := by cases p <;> rfl
@[simp] theorem State.setPage_time (p : PageId) (c : PageCtl) : (s.setPage p c).time = s.time := by cases p <;> rfl
@[simp] theorem State.setPage_draws (p : PageId) (c : PageCtl) : (s.setPage p c).draws = s.draws := by cases p <;> rfl
@[simp] theorem State.setPage_clock (p : PageId) (c : PageCtl) : (s.setPage p c).clock = s.clock := by cases p <;> rfl
@[simp] theorem State.setPage_setup (p : PageId) (c : PageCtl) : (s.setPage p c).setup = s.setup := by cases p <;> rfl
@[simp] theorem State.setPage_src (p : PageId) (c : PageCtl) : (s.setPage p c).src = s.src := by cases p <;> rfl
@[simp] theorem State.setPage_gauge (p : PageId) (c : PageCtl) : (s.setPage p c).gauge = s.gauge := by cases p <;> rfl
@[simp] theorem State.setPage_bright (p : PageId) (c : PageCtl) : (s.setPage p c).bright = s.bright := by cases p <;> rfl
@[simp] theorem State.setPage_drv (p : PageId) (c : PageCtl) : (s.setPage p c).drv = s.drv := by cases p <;> rfl
@[simp] theorem State.setPage_motion (p : PageId) (c : PageCtl) : (s.setPage p c).motion = s.motion := by cases p <;> rfl
@[simp] theorem State.setPage_hist (p : PageId) (c : PageCtl) : (s.setPage p c).hist = s.hist := by cases p <;> rfl
@[simp] theorem State.setPage_req (p : PageId) (c : PageCtl) : (s.setPage p c).req = s.req := by cases p <;> rfl
@[simp] theorem State.setPage_notices (p : PageId) (c : PageCtl) : (s.setPage p c).notices = s.notices := by cases p <;> rfl
@[simp] theorem State.setPage_routes (p : PageId) (c : PageCtl) : (s.setPage p c).routes = s.routes := by cases p <;> rfl
@[simp] theorem State.setPage_link (p : PageId) (c : PageCtl) : (s.setPage p c).link = s.link := by cases p <;> rfl

@[simp] theorem State.setBay_pending (b : BayId) (x : Bay) : (s.setBay b x).pending = s.pending := by cases b <;> rfl
@[simp] theorem State.setBay_powered (b : BayId) (x : Bay) : (s.setBay b x).powered = s.powered := by cases b <;> rfl
@[simp] theorem State.setBay_time (b : BayId) (x : Bay) : (s.setBay b x).time = s.time := by cases b <;> rfl
@[simp] theorem State.setBay_draws (b : BayId) (x : Bay) : (s.setBay b x).draws = s.draws := by cases b <;> rfl
@[simp] theorem State.setBay_clock (b : BayId) (x : Bay) : (s.setBay b x).clock = s.clock := by cases b <;> rfl
@[simp] theorem State.setBay_setup (b : BayId) (x : Bay) : (s.setBay b x).setup = s.setup := by cases b <;> rfl
@[simp] theorem State.setBay_gauge (b : BayId) (x : Bay) : (s.setBay b x).gauge = s.gauge := by cases b <;> rfl
@[simp] theorem State.setBay_bright (b : BayId) (x : Bay) : (s.setBay b x).bright = s.bright := by cases b <;> rfl
@[simp] theorem State.setBay_drv (b : BayId) (x : Bay) : (s.setBay b x).drv = s.drv := by cases b <;> rfl
@[simp] theorem State.setBay_motion (b : BayId) (x : Bay) : (s.setBay b x).motion = s.motion := by cases b <;> rfl
@[simp] theorem State.setBay_hist (b : BayId) (x : Bay) : (s.setBay b x).hist = s.hist := by cases b <;> rfl
@[simp] theorem State.setBay_req (b : BayId) (x : Bay) : (s.setBay b x).req = s.req := by cases b <;> rfl
@[simp] theorem State.setBay_notices (b : BayId) (x : Bay) : (s.setBay b x).notices = s.notices := by cases b <;> rfl
@[simp] theorem State.setBay_routes (b : BayId) (x : Bay) : (s.setBay b x).routes = s.routes := by cases b <;> rfl
@[simp] theorem State.setBay_link (b : BayId) (x : Bay) : (s.setBay b x).link = s.link := by cases b <;> rfl
@[simp] theorem State.setBay_pages (b : BayId) (x : Bay) : (s.setBay b x).pages = s.pages := by cases b <;> rfl

@[simp] theorem State.setGaugeRec_pending (b : BayId) (r : Option GaugeRec) : (s.setGaugeRec b r).pending = s.pending := by cases b <;> rfl
@[simp] theorem State.setGaugeRec_powered (b : BayId) (r : Option GaugeRec) : (s.setGaugeRec b r).powered = s.powered := by cases b <;> rfl
@[simp] theorem State.setGaugeRec_time (b : BayId) (r : Option GaugeRec) : (s.setGaugeRec b r).time = s.time := by cases b <;> rfl
@[simp] theorem State.setGaugeRec_draws (b : BayId) (r : Option GaugeRec) : (s.setGaugeRec b r).draws = s.draws := by cases b <;> rfl
@[simp] theorem State.setGaugeRec_clock (b : BayId) (r : Option GaugeRec) : (s.setGaugeRec b r).clock = s.clock := by cases b <;> rfl
@[simp] theorem State.setGaugeRec_setup (b : BayId) (r : Option GaugeRec) : (s.setGaugeRec b r).setup = s.setup := by cases b <;> rfl
@[simp] theorem State.setGaugeRec_src (b : BayId) (r : Option GaugeRec) : (s.setGaugeRec b r).src = s.src := by cases b <;> rfl
@[simp] theorem State.setGaugeRec_bright (b : BayId) (r : Option GaugeRec) : (s.setGaugeRec b r).bright = s.bright := by cases b <;> rfl
@[simp] theorem State.setGaugeRec_drv (b : BayId) (r : Option GaugeRec) : (s.setGaugeRec b r).drv = s.drv := by cases b <;> rfl
@[simp] theorem State.setGaugeRec_motion (b : BayId) (r : Option GaugeRec) : (s.setGaugeRec b r).motion = s.motion := by cases b <;> rfl
@[simp] theorem State.setGaugeRec_hist (b : BayId) (r : Option GaugeRec) : (s.setGaugeRec b r).hist = s.hist := by cases b <;> rfl
@[simp] theorem State.setGaugeRec_req (b : BayId) (r : Option GaugeRec) : (s.setGaugeRec b r).req = s.req := by cases b <;> rfl
@[simp] theorem State.setGaugeRec_notices (b : BayId) (r : Option GaugeRec) : (s.setGaugeRec b r).notices = s.notices := by cases b <;> rfl
@[simp] theorem State.setGaugeRec_routes (b : BayId) (r : Option GaugeRec) : (s.setGaugeRec b r).routes = s.routes := by cases b <;> rfl
@[simp] theorem State.setGaugeRec_link (b : BayId) (r : Option GaugeRec) : (s.setGaugeRec b r).link = s.link := by cases b <;> rfl
@[simp] theorem State.setGaugeRec_pages (b : BayId) (r : Option GaugeRec) : (s.setGaugeRec b r).pages = s.pages := by cases b <;> rfl

@[simp] theorem State.setKept_pending (b : BayId) (k : Option Nat) : (s.setKept b k).pending = s.pending := by cases b <;> rfl
@[simp] theorem State.setKept_powered (b : BayId) (k : Option Nat) : (s.setKept b k).powered = s.powered := by cases b <;> rfl
@[simp] theorem State.setKept_time (b : BayId) (k : Option Nat) : (s.setKept b k).time = s.time := by cases b <;> rfl
@[simp] theorem State.setKept_draws (b : BayId) (k : Option Nat) : (s.setKept b k).draws = s.draws := by cases b <;> rfl
@[simp] theorem State.setKept_clock (b : BayId) (k : Option Nat) : (s.setKept b k).clock = s.clock := by cases b <;> rfl
@[simp] theorem State.setKept_setup (b : BayId) (k : Option Nat) : (s.setKept b k).setup = s.setup := by cases b <;> rfl
@[simp] theorem State.setKept_src (b : BayId) (k : Option Nat) : (s.setKept b k).src = s.src := by cases b <;> rfl
@[simp] theorem State.setKept_bright (b : BayId) (k : Option Nat) : (s.setKept b k).bright = s.bright := by cases b <;> rfl
@[simp] theorem State.setKept_drv (b : BayId) (k : Option Nat) : (s.setKept b k).drv = s.drv := by cases b <;> rfl
@[simp] theorem State.setKept_motion (b : BayId) (k : Option Nat) : (s.setKept b k).motion = s.motion := by cases b <;> rfl
@[simp] theorem State.setKept_hist (b : BayId) (k : Option Nat) : (s.setKept b k).hist = s.hist := by cases b <;> rfl
@[simp] theorem State.setKept_req (b : BayId) (k : Option Nat) : (s.setKept b k).req = s.req := by cases b <;> rfl
@[simp] theorem State.setKept_notices (b : BayId) (k : Option Nat) : (s.setKept b k).notices = s.notices := by cases b <;> rfl
@[simp] theorem State.setKept_routes (b : BayId) (k : Option Nat) : (s.setKept b k).routes = s.routes := by cases b <;> rfl
@[simp] theorem State.setKept_link (b : BayId) (k : Option Nat) : (s.setKept b k).link = s.link := by cases b <;> rfl
@[simp] theorem State.setKept_pages (b : BayId) (k : Option Nat) : (s.setKept b k).pages = s.pages := by cases b <;> rfl

@[simp] theorem State.xwrite_pending (a : Nat) (bs : List Byte) : (s.xwrite a bs).pending = s.pending := rfl
@[simp] theorem State.xwrite_powered (a : Nat) (bs : List Byte) : (s.xwrite a bs).powered = s.powered := rfl
@[simp] theorem State.xwrite_time (a : Nat) (bs : List Byte) : (s.xwrite a bs).time = s.time := rfl
@[simp] theorem State.xwrite_draws (a : Nat) (bs : List Byte) : (s.xwrite a bs).draws = s.draws := rfl
@[simp] theorem State.xwrite_clock (a : Nat) (bs : List Byte) : (s.xwrite a bs).clock = s.clock := rfl
@[simp] theorem State.xwrite_setup (a : Nat) (bs : List Byte) : (s.xwrite a bs).setup = s.setup := rfl
@[simp] theorem State.xwrite_src (a : Nat) (bs : List Byte) : (s.xwrite a bs).src = s.src := rfl
@[simp] theorem State.xwrite_gauge (a : Nat) (bs : List Byte) : (s.xwrite a bs).gauge = s.gauge := rfl
@[simp] theorem State.xwrite_bright (a : Nat) (bs : List Byte) : (s.xwrite a bs).bright = s.bright := rfl
@[simp] theorem State.xwrite_drv (a : Nat) (bs : List Byte) : (s.xwrite a bs).drv = s.drv := rfl
@[simp] theorem State.xwrite_motion (a : Nat) (bs : List Byte) : (s.xwrite a bs).motion = s.motion := rfl
@[simp] theorem State.xwrite_hist (a : Nat) (bs : List Byte) : (s.xwrite a bs).hist = s.hist := rfl
@[simp] theorem State.xwrite_req (a : Nat) (bs : List Byte) : (s.xwrite a bs).req = s.req := rfl
@[simp] theorem State.xwrite_notices (a : Nat) (bs : List Byte) : (s.xwrite a bs).notices = s.notices := rfl
@[simp] theorem State.xwrite_routes (a : Nat) (bs : List Byte) : (s.xwrite a bs).routes = s.routes := rfl
@[simp] theorem State.xwrite_pages (a : Nat) (bs : List Byte) : (s.xwrite a bs).pages = s.pages := rfl

@[simp] theorem State.setEntry_pending (e : EntryId) (x : EntryState) : (s.setEntry e x).pending = s.pending := rfl
@[simp] theorem State.setEntry_powered (e : EntryId) (x : EntryState) : (s.setEntry e x).powered = s.powered := rfl
@[simp] theorem State.setEntry_time (e : EntryId) (x : EntryState) : (s.setEntry e x).time = s.time := rfl
@[simp] theorem State.setEntry_draws (e : EntryId) (x : EntryState) : (s.setEntry e x).draws = s.draws := rfl
@[simp] theorem State.setEntry_clock (e : EntryId) (x : EntryState) : (s.setEntry e x).clock = s.clock := rfl
@[simp] theorem State.setEntry_setup (e : EntryId) (x : EntryState) : (s.setEntry e x).setup = s.setup := rfl
@[simp] theorem State.setEntry_src (e : EntryId) (x : EntryState) : (s.setEntry e x).src = s.src := rfl
@[simp] theorem State.setEntry_gauge (e : EntryId) (x : EntryState) : (s.setEntry e x).gauge = s.gauge := rfl
@[simp] theorem State.setEntry_bright (e : EntryId) (x : EntryState) : (s.setEntry e x).bright = s.bright := rfl
@[simp] theorem State.setEntry_drv (e : EntryId) (x : EntryState) : (s.setEntry e x).drv = s.drv := rfl
@[simp] theorem State.setEntry_motion (e : EntryId) (x : EntryState) : (s.setEntry e x).motion = s.motion := rfl
@[simp] theorem State.setEntry_hist (e : EntryId) (x : EntryState) : (s.setEntry e x).hist = s.hist := rfl
@[simp] theorem State.setEntry_notices (e : EntryId) (x : EntryState) : (s.setEntry e x).notices = s.notices := rfl
@[simp] theorem State.setEntry_routes (e : EntryId) (x : EntryState) : (s.setEntry e x).routes = s.routes := rfl
@[simp] theorem State.setEntry_link (e : EntryId) (x : EntryState) : (s.setEntry e x).link = s.link := rfl
@[simp] theorem State.setEntry_pages (e : EntryId) (x : EntryState) : (s.setEntry e x).pages = s.pages := rfl

@[simp] theorem State.setActive_pending (u : UnitId) (e : Option EntryId) : (s.setActive u e).pending = s.pending := by cases u <;> rfl
@[simp] theorem State.setActive_powered (u : UnitId) (e : Option EntryId) : (s.setActive u e).powered = s.powered := by cases u <;> rfl
@[simp] theorem State.setActive_time (u : UnitId) (e : Option EntryId) : (s.setActive u e).time = s.time := by cases u <;> rfl
@[simp] theorem State.setActive_draws (u : UnitId) (e : Option EntryId) : (s.setActive u e).draws = s.draws := by cases u <;> rfl
@[simp] theorem State.setActive_clock (u : UnitId) (e : Option EntryId) : (s.setActive u e).clock = s.clock := by cases u <;> rfl
@[simp] theorem State.setActive_setup (u : UnitId) (e : Option EntryId) : (s.setActive u e).setup = s.setup := by cases u <;> rfl
@[simp] theorem State.setActive_src (u : UnitId) (e : Option EntryId) : (s.setActive u e).src = s.src := by cases u <;> rfl
@[simp] theorem State.setActive_gauge (u : UnitId) (e : Option EntryId) : (s.setActive u e).gauge = s.gauge := by cases u <;> rfl
@[simp] theorem State.setActive_bright (u : UnitId) (e : Option EntryId) : (s.setActive u e).bright = s.bright := by cases u <;> rfl
@[simp] theorem State.setActive_drv (u : UnitId) (e : Option EntryId) : (s.setActive u e).drv = s.drv := by cases u <;> rfl
@[simp] theorem State.setActive_motion (u : UnitId) (e : Option EntryId) : (s.setActive u e).motion = s.motion := by cases u <;> rfl
@[simp] theorem State.setActive_hist (u : UnitId) (e : Option EntryId) : (s.setActive u e).hist = s.hist := by cases u <;> rfl
@[simp] theorem State.setActive_notices (u : UnitId) (e : Option EntryId) : (s.setActive u e).notices = s.notices := by cases u <;> rfl
@[simp] theorem State.setActive_routes (u : UnitId) (e : Option EntryId) : (s.setActive u e).routes = s.routes := by cases u <;> rfl
@[simp] theorem State.setActive_link (u : UnitId) (e : Option EntryId) : (s.setActive u e).link = s.link := by cases u <;> rfl
@[simp] theorem State.setActive_pages (u : UnitId) (e : Option EntryId) : (s.setActive u e).pages = s.pages := by cases u <;> rfl

@[simp] theorem State.setWaiting_pending (c : GroupClass) (g : Option Group) : (s.setWaiting c g).pending = s.pending := by cases c <;> rfl
@[simp] theorem State.setWaiting_powered (c : GroupClass) (g : Option Group) : (s.setWaiting c g).powered = s.powered := by cases c <;> rfl
@[simp] theorem State.setWaiting_time (c : GroupClass) (g : Option Group) : (s.setWaiting c g).time = s.time := by cases c <;> rfl
@[simp] theorem State.setWaiting_draws (c : GroupClass) (g : Option Group) : (s.setWaiting c g).draws = s.draws := by cases c <;> rfl
@[simp] theorem State.setWaiting_clock (c : GroupClass) (g : Option Group) : (s.setWaiting c g).clock = s.clock := by cases c <;> rfl
@[simp] theorem State.setWaiting_setup (c : GroupClass) (g : Option Group) : (s.setWaiting c g).setup = s.setup := by cases c <;> rfl
@[simp] theorem State.setWaiting_src (c : GroupClass) (g : Option Group) : (s.setWaiting c g).src = s.src := by cases c <;> rfl
@[simp] theorem State.setWaiting_gauge (c : GroupClass) (g : Option Group) : (s.setWaiting c g).gauge = s.gauge := by cases c <;> rfl
@[simp] theorem State.setWaiting_bright (c : GroupClass) (g : Option Group) : (s.setWaiting c g).bright = s.bright := by cases c <;> rfl
@[simp] theorem State.setWaiting_motion (c : GroupClass) (g : Option Group) : (s.setWaiting c g).motion = s.motion := by cases c <;> rfl
@[simp] theorem State.setWaiting_hist (c : GroupClass) (g : Option Group) : (s.setWaiting c g).hist = s.hist := by cases c <;> rfl
@[simp] theorem State.setWaiting_req (c : GroupClass) (g : Option Group) : (s.setWaiting c g).req = s.req := by cases c <;> rfl
@[simp] theorem State.setWaiting_notices (c : GroupClass) (g : Option Group) : (s.setWaiting c g).notices = s.notices := by cases c <;> rfl
@[simp] theorem State.setWaiting_routes (c : GroupClass) (g : Option Group) : (s.setWaiting c g).routes = s.routes := by cases c <;> rfl
@[simp] theorem State.setWaiting_link (c : GroupClass) (g : Option Group) : (s.setWaiting c g).link = s.link := by cases c <;> rfl
@[simp] theorem State.setWaiting_pages (c : GroupClass) (g : Option Group) : (s.setWaiting c g).pages = s.pages := by cases c <;> rfl

@[simp] theorem State.setAttn_pending (f : BitVec 5) : (s.setAttn f).pending = s.pending := rfl
@[simp] theorem State.setAttn_powered (f : BitVec 5) : (s.setAttn f).powered = s.powered := rfl
@[simp] theorem State.setAttn_time (f : BitVec 5) : (s.setAttn f).time = s.time := rfl
@[simp] theorem State.setAttn_draws (f : BitVec 5) : (s.setAttn f).draws = s.draws := rfl
@[simp] theorem State.setAttn_clock (f : BitVec 5) : (s.setAttn f).clock = s.clock := rfl
@[simp] theorem State.setAttn_setup (f : BitVec 5) : (s.setAttn f).setup = s.setup := rfl
@[simp] theorem State.setAttn_src (f : BitVec 5) : (s.setAttn f).src = s.src := rfl
@[simp] theorem State.setAttn_gauge (f : BitVec 5) : (s.setAttn f).gauge = s.gauge := rfl
@[simp] theorem State.setAttn_bright (f : BitVec 5) : (s.setAttn f).bright = s.bright := rfl
@[simp] theorem State.setAttn_drv (f : BitVec 5) : (s.setAttn f).drv = s.drv := rfl
@[simp] theorem State.setAttn_motion (f : BitVec 5) : (s.setAttn f).motion = s.motion := rfl
@[simp] theorem State.setAttn_hist (f : BitVec 5) : (s.setAttn f).hist = s.hist := rfl
@[simp] theorem State.setAttn_req (f : BitVec 5) : (s.setAttn f).req = s.req := rfl
@[simp] theorem State.setAttn_notices (f : BitVec 5) : (s.setAttn f).notices = s.notices := rfl
@[simp] theorem State.setAttn_routes (f : BitVec 5) : (s.setAttn f).routes = s.routes := rfl
@[simp] theorem State.setAttn_pages (f : BitVec 5) : (s.setAttn f).pages = s.pages := rfl

@[simp] theorem State.setBay_src_bridgeMonitor (b : BayId) (x : Bay) : (s.setBay b x).src.bridgeMonitor = s.src.bridgeMonitor := by cases b <;> rfl
@[simp] theorem State.setBay_src_bridgeBelow (b : BayId) (x : Bay) : (s.setBay b x).src.bridgeBelow = s.src.bridgeBelow := by cases b <;> rfl
@[simp] theorem State.setBay_src_bridgeNotBelow (b : BayId) (x : Bay) : (s.setBay b x).src.bridgeNotBelow = s.src.bridgeNotBelow := by cases b <;> rfl
@[simp] theorem State.setBay_src_bridgeHigh (b : BayId) (x : Bay) : (s.setBay b x).src.bridgeHigh = s.src.bridgeHigh := by cases b <;> rfl
@[simp] theorem State.setBay_src_cutoff (b : BayId) (x : Bay) : (s.setBay b x).src.cutoff = s.src.cutoff := by cases b <;> rfl
@[simp] theorem State.setBay_src_brChg (b : BayId) (x : Bay) : (s.setBay b x).src.brChg = s.src.brChg := by cases b <;> rfl
@[simp] theorem State.setBay_src_bridgeMv (b : BayId) (x : Bay) : (s.setBay b x).src.bridgeMv = s.src.bridgeMv := by cases b <;> rfl
@[simp] theorem State.setBay_src_dcPresent (b : BayId) (x : Bay) : (s.setBay b x).src.dcPresent = s.src.dcPresent := by cases b <;> rfl
@[simp] theorem State.setBay_src_dcRun (b : BayId) (x : Bay) : (s.setBay b x).src.dcRun = s.src.dcRun := by cases b <;> rfl
@[simp] theorem State.setBay_src_dcMv (b : BayId) (x : Bay) : (s.setBay b x).src.dcMv = s.src.dcMv := by cases b <;> rfl
@[simp] theorem State.setBay_src_feeding (b : BayId) (x : Bay) : (s.setBay b x).src.feeding = s.src.feeding := by cases b <;> rfl
@[simp] theorem State.setBay_src_power (b : BayId) (x : Bay) : (s.setBay b x).src.power = s.src.power := by cases b <;> rfl
@[simp] theorem State.setBay_src_exhLatch (b : BayId) (x : Bay) : (s.setBay b x).src.exhLatch = s.src.exhLatch := by cases b <;> rfl
@[simp] theorem State.setBay_src_policy (b : BayId) (x : Bay) : (s.setBay b x).src.policy = s.src.policy := by cases b <;> rfl
@[simp] theorem State.setBay_src_warn (b : BayId) (x : Bay) : (s.setBay b x).src.warn = s.src.warn := by cases b <;> rfl
@[simp] theorem State.setBay_src_hold (b : BayId) (x : Bay) : (s.setBay b x).src.hold = s.src.hold := by cases b <;> rfl
@[simp] theorem State.setBay_src_deferred (b : BayId) (x : Bay) : (s.setBay b x).src.deferred = s.src.deferred := by cases b <;> rfl
@[simp] theorem State.setBay_src_interrupted (b : BayId) (x : Bay) : (s.setBay b x).src.interrupted = s.src.interrupted := by cases b <;> rfl
@[simp] theorem State.setBay_src_listOut (b : BayId) (x : Bay) : (s.setBay b x).src.listOut = s.src.listOut := by cases b <;> rfl
@[simp] theorem State.setBay_src_prep (b : BayId) (x : Bay) : (s.setBay b x).src.prep = s.src.prep := by cases b <;> rfl
@[simp] theorem State.setBay_src_rideTimer (b : BayId) (x : Bay) : (s.setBay b x).src.rideTimer = s.src.rideTimer := by cases b <;> rfl
@[simp] theorem State.setBay_src_chgDone (b : BayId) (x : Bay) : (s.setBay b x).src.chgDone = s.src.chgDone := by cases b <;> rfl
@[simp] theorem State.setBay_src_sysLines (b : BayId) (x : Bay) : (s.setBay b x).src.sysLines = s.src.sysLines := by cases b <;> rfl
@[simp] theorem State.setBay_src_sysState (b : BayId) (x : Bay) : (s.setBay b x).src.sysState = s.src.sysState := by cases b <;> rfl
@[simp] theorem State.setBay_src_sysCand (b : BayId) (x : Bay) : (s.setBay b x).src.sysCand = s.src.sysCand := by cases b <;> rfl
@[simp] theorem State.setBay_src_holdups (b : BayId) (x : Bay) : (s.setBay b x).src.holdups = s.src.holdups := by cases b <;> rfl

@[simp] theorem State.xwrite_link_up (a : Nat) (bs : List Byte) : (s.xwrite a bs).link.up = s.link.up := rfl
@[simp] theorem State.setAttn_link_up (f : BitVec 5) : (s.setAttn f).link.up = s.link.up := rfl
@[simp] theorem State.xwrite_link_platformLow (a : Nat) (bs : List Byte) : (s.xwrite a bs).link.platformLow = s.link.platformLow := rfl
@[simp] theorem State.setAttn_link_platformLow (f : BitVec 5) : (s.setAttn f).link.platformLow = s.link.platformLow := rfl
@[simp] theorem State.setAttn_link_memory (f : BitVec 5) : (s.setAttn f).link.memory = s.link.memory := rfl
@[simp] theorem State.xwrite_link_attn (a : Nat) (bs : List Byte) : (s.xwrite a bs).link.attn = s.link.attn := rfl
@[simp] theorem State.xwrite_link_mask (a : Nat) (bs : List Byte) : (s.xwrite a bs).link.mask = s.link.mask := rfl
@[simp] theorem State.setAttn_link_mask (f : BitVec 5) : (s.setAttn f).link.mask = s.link.mask := rfl
@[simp] theorem State.xwrite_link_arm (a : Nat) (bs : List Byte) : (s.xwrite a bs).link.arm = s.link.arm := rfl
@[simp] theorem State.setAttn_link_arm (f : BitVec 5) : (s.setAttn f).link.arm = s.link.arm := rfl
@[simp] theorem State.xwrite_link_setupTaken (a : Nat) (bs : List Byte) : (s.xwrite a bs).link.setupTaken = s.link.setupTaken := rfl
@[simp] theorem State.setAttn_link_setupTaken (f : BitVec 5) : (s.setAttn f).link.setupTaken = s.link.setupTaken := rfl
@[simp] theorem State.xwrite_link_lastRefused (a : Nat) (bs : List Byte) : (s.xwrite a bs).link.lastRefused = s.link.lastRefused := rfl
@[simp] theorem State.setAttn_link_lastRefused (f : BitVec 5) : (s.setAttn f).link.lastRefused = s.link.lastRefused := rfl
@[simp] theorem State.xwrite_link_resetCause (a : Nat) (bs : List Byte) : (s.xwrite a bs).link.resetCause = s.link.resetCause := rfl
@[simp] theorem State.setAttn_link_resetCause (f : BitVec 5) : (s.setAttn f).link.resetCause = s.link.resetCause := rfl
@[simp] theorem State.xwrite_link_readData (a : Nat) (bs : List Byte) : (s.xwrite a bs).link.readData = s.link.readData := rfl
@[simp] theorem State.setAttn_link_readData (f : BitVec 5) : (s.setAttn f).link.readData = s.link.readData := rfl

@[simp] theorem State.setKept_gauge_recA (b : BayId) (k : Option Nat) : (s.setKept b k).gauge.recA = s.gauge.recA := by cases b <;> rfl
@[simp] theorem State.setKept_gauge_recB (b : BayId) (k : Option Nat) : (s.setKept b k).gauge.recB = s.gauge.recB := by cases b <;> rfl
@[simp] theorem State.setGaugeRec_gauge_keptA (b : BayId) (r : Option GaugeRec) : (s.setGaugeRec b r).gauge.keptA = s.gauge.keptA := by cases b <;> rfl
@[simp] theorem State.setGaugeRec_gauge_keptB (b : BayId) (r : Option GaugeRec) : (s.setGaugeRec b r).gauge.keptB = s.gauge.keptB := by cases b <;> rfl
@[simp] theorem State.setGaugeRec_gauge_window (b : BayId) (r : Option GaugeRec) : (s.setGaugeRec b r).gauge.window = s.gauge.window := by cases b <;> rfl
@[simp] theorem State.setKept_gauge_window (b : BayId) (k : Option Nat) : (s.setKept b k).gauge.window = s.gauge.window := by cases b <;> rfl
@[simp] theorem State.setGaugeRec_gauge_secSum (b : BayId) (r : Option GaugeRec) : (s.setGaugeRec b r).gauge.secSum = s.gauge.secSum := by cases b <;> rfl
@[simp] theorem State.setKept_gauge_secSum (b : BayId) (k : Option Nat) : (s.setKept b k).gauge.secSum = s.gauge.secSum := by cases b <;> rfl
@[simp] theorem State.setGaugeRec_gauge_secCount (b : BayId) (r : Option GaugeRec) : (s.setGaugeRec b r).gauge.secCount = s.gauge.secCount := by cases b <;> rfl
@[simp] theorem State.setKept_gauge_secCount (b : BayId) (k : Option Nat) : (s.setKept b k).gauge.secCount = s.gauge.secCount := by cases b <;> rfl
@[simp] theorem State.setWaiting_drv_state (c : GroupClass) (g : Option Group) : (s.setWaiting c g).drv.state = s.drv.state := by cases c <;> rfl
@[simp] theorem State.setWaiting_drv_configured (c : GroupClass) (g : Option Group) : (s.setWaiting c g).drv.configured = s.drv.configured := by cases c <;> rfl
@[simp] theorem State.setWaiting_drv_sys (c : GroupClass) (g : Option Group) : (s.setWaiting c g).drv.sys = s.drv.sys := by cases c <;> rfl
@[simp] theorem State.setWaiting_drv_levelZero (c : GroupClass) (g : Option Group) : (s.setWaiting c g).drv.levelZero = s.drv.levelZero := by cases c <;> rfl
@[simp] theorem State.setWaiting_drv_nextCompare (c : GroupClass) (g : Option Group) : (s.setWaiting c g).drv.nextCompare = s.drv.nextCompare := by cases c <;> rfl
@[simp] theorem State.setWaiting_drv_activeCompare (c : GroupClass) (g : Option Group) : (s.setWaiting c g).drv.activeCompare = s.drv.activeCompare := by cases c <;> rfl
@[simp] theorem State.setWaiting_drv_period (c : GroupClass) (g : Option Group) : (s.setWaiting c g).drv.period = s.drv.period := by cases c <;> rfl
@[simp] theorem State.setWaiting_drv_swapped (c : GroupClass) (g : Option Group) : (s.setWaiting c g).drv.swapped = s.drv.swapped := by cases c <;> rfl
@[simp] theorem State.setWaiting_drv_inverted (c : GroupClass) (g : Option Group) : (s.setWaiting c g).drv.inverted = s.drv.inverted := by cases c <;> rfl
@[simp] theorem State.setWaiting_drv_nextPeriod (c : GroupClass) (g : Option Group) : (s.setWaiting c g).drv.nextPeriod = s.drv.nextPeriod := by cases c <;> rfl
@[simp] theorem State.setWaiting_drv_nextSwapped (c : GroupClass) (g : Option Group) : (s.setWaiting c g).drv.nextSwapped = s.drv.nextSwapped := by cases c <;> rfl
@[simp] theorem State.setWaiting_drv_nextInverted (c : GroupClass) (g : Option Group) : (s.setWaiting c g).drv.nextInverted = s.drv.nextInverted := by cases c <;> rfl
@[simp] theorem State.setWaiting_drv_delayStart (c : GroupClass) (g : Option Group) : (s.setWaiting c g).drv.delayStart = s.drv.delayStart := by cases c <;> rfl
@[simp] theorem State.setWaiting_drv_delayLen (c : GroupClass) (g : Option Group) : (s.setWaiting c g).drv.delayLen = s.drv.delayLen := by cases c <;> rfl
@[simp] theorem State.setWaiting_drv_active (c : GroupClass) (g : Option Group) : (s.setWaiting c g).drv.active = s.drv.active := by cases c <;> rfl

/-! What the updates set, and what they leave of their own component. -/

@[simp] theorem State.bay_setBay (b : BayId) (x : Bay) : (s.setBay b x).bay b = x := by cases b <;> rfl
@[simp] theorem State.bay_setBay_other (b : BayId) (x : Bay) : (s.setBay b x).bay b.other = s.bay b.other := by
  cases b <;> rfl
@[simp] theorem State.gaugeRec_setGaugeRec (b : BayId) (r : Option GaugeRec) : (s.setGaugeRec b r).gaugeRec b = r := by
  cases b <;> rfl
@[simp] theorem State.gaugeRec_setGaugeRec_other (b : BayId) (r : Option GaugeRec) :
    (s.setGaugeRec b r).gaugeRec b.other = s.gaugeRec b.other := by cases b <;> rfl
@[simp] theorem State.kept_setKept (b : BayId) (k : Option Nat) : (s.setKept b k).kept b = k := by cases b <;> rfl
@[simp] theorem State.gaugeRec_setBay (b c : BayId) (x : Bay) : (s.setBay b x).gaugeRec c = s.gaugeRec c := by
  cases b <;> cases c <;> rfl
@[simp] theorem State.bay_setGaugeRec (b c : BayId) (r : Option GaugeRec) : (s.setGaugeRec b r).bay c = s.bay c := by
  cases b <;> cases c <;> rfl
@[simp] theorem State.bay_touch (b : BayId) (p : PageId) : (s.touch p).bay b = s.bay b := by
  cases p <;> cases b <;> rfl
@[simp] theorem State.gaugeRec_touch (b : BayId) (p : PageId) : (s.touch p).gaugeRec b = s.gaugeRec b := by
  cases p <;> cases b <;> rfl
@[simp] theorem State.page_setPage (p : PageId) (c : PageCtl) : (s.setPage p c).page p = c := by cases p <;> rfl
theorem State.page_setPage_ne {p q : PageId} (c : PageCtl) (h : q ≠ p) : (s.setPage p c).page q = s.page q := by
  cases p <;> cases q <;> first | rfl | exact absurd rfl h
@[simp] theorem State.page_touch (p : PageId) : (s.touch p).page p = { s.page p with cause := true } := by
  cases p <;> rfl
theorem State.page_touch_ne {p q : PageId} (h : q ≠ p) : (s.touch p).page q = s.page q := by
  cases p <;> cases q <;> first | rfl | exact absurd rfl h
@[simp] theorem State.active_setActive (u : UnitId) (e : Option EntryId) : (s.setActive u e).active u = e := by
  cases u <;> rfl
theorem State.active_setActive_ne {u v : UnitId} (e : Option EntryId) (h : v ≠ u) :
    (s.setActive u e).active v = s.active v := by
  cases u <;> cases v <;> first | rfl | exact absurd rfl h
@[simp] theorem State.setActive_entries (u : UnitId) (e : Option EntryId) :
    (s.setActive u e).req.entries = s.req.entries := by cases u <;> rfl
@[simp] theorem State.setActive_intake (u : UnitId) (e : Option EntryId) :
    (s.setActive u e).req.intake = s.req.intake := by cases u <;> rfl
@[simp] theorem State.setEntry_intake (e : EntryId) (x : EntryState) : (s.setEntry e x).req.intake = s.req.intake := rfl
@[simp] theorem State.active_setEntry (u : UnitId) (e : EntryId) (x : EntryState) :
    (s.setEntry e x).active u = s.active u := by cases u <;> rfl
@[simp] theorem State.entry_setEntry (e : EntryId) (x : EntryState) : (s.setEntry e x).entry e = x := by
  simp [State.entry, State.setEntry]
theorem State.entry_setEntry_ne {e f : EntryId} (x : EntryState) (h : f ≠ e) :
    (s.setEntry e x).entry f = s.entry f := by
  have h' : e.val ≠ f.val := fun hh => h (Fin.ext hh.symm)
  simp [State.entry, State.setEntry, h']
@[simp] theorem State.xwrite_memory (a : Nat) (bs : List Byte) :
    (s.xwrite a bs).link.memory = memWriteBytes exchangeDefault s.link.memory a bs := rfl
@[simp] theorem State.setAttn_attn (f : BitVec 5) : (s.setAttn f).link.attn = s.link.attn ||| f := rfl

end Sys2Proof.Machine
end

