-- ==== Sys2Proof/Laws/FrameBasics.lean ====
section
/-! SUPPORT. What each operation of notices, requests, outputs, brightness leaves unchanged: one lemma each. -/

namespace Sys2Proof.Machine

variable (s : State)

@[simp] theorem raise_frame (k : NoticeKind) (p : List Byte) :
    (raise k p s).pending = s.pending ∧ (raise k p s).powered = s.powered ∧ (raise k p s).time = s.time ∧
    (raise k p s).draws = s.draws ∧ (raise k p s).clock = s.clock ∧ (raise k p s).setup = s.setup ∧
    (raise k p s).src = s.src ∧ (raise k p s).gauge = s.gauge ∧ (raise k p s).bright = s.bright ∧
    (raise k p s).drv = s.drv ∧ (raise k p s).motion = s.motion ∧ (raise k p s).hist = s.hist ∧
    (raise k p s).req = s.req ∧ (raise k p s).routes = s.routes ∧ (raise k p s).pages = s.pages ∧
    (raise k p s).link.up = s.link.up ∧ (raise k p s).link.platformLow = s.link.platformLow ∧
    (raise k p s).link.memory = s.link.memory ∧ (raise k p s).link.mask = s.link.mask ∧
    (raise k p s).link.arm = s.link.arm ∧ (raise k p s).link.setupTaken = s.link.setupTaken ∧
    (raise k p s).link.lastRefused = s.link.lastRefused ∧ (raise k p s).link.resetCause = s.link.resetCause ∧
    (raise k p s).link.readData = s.link.readData := by
  simp only [raise]
  (repeat' split) <;> simp

@[simp] theorem consumeSlot_frame (k : Fin 32) (c : Nat) :
    (consumeSlot k c s).pending = s.pending ∧ (consumeSlot k c s).powered = s.powered ∧
    (consumeSlot k c s).time = s.time ∧ (consumeSlot k c s).draws = s.draws ∧
    (consumeSlot k c s).clock = s.clock ∧ (consumeSlot k c s).setup = s.setup ∧ (consumeSlot k c s).src = s.src ∧
    (consumeSlot k c s).gauge = s.gauge ∧ (consumeSlot k c s).bright = s.bright ∧
    (consumeSlot k c s).drv = s.drv ∧ (consumeSlot k c s).motion = s.motion ∧ (consumeSlot k c s).hist = s.hist ∧
    (consumeSlot k c s).req = s.req ∧ (consumeSlot k c s).routes = s.routes ∧ (consumeSlot k c s).link = s.link ∧
    (consumeSlot k c s).pages = s.pages := by
  simp only [consumeSlot]
  (repeat' split) <;> simp

@[simp] theorem clearNotices_frame :
    (clearNotices s).pending = s.pending ∧ (clearNotices s).powered = s.powered ∧
    (clearNotices s).time = s.time ∧ (clearNotices s).draws = s.draws ∧ (clearNotices s).clock = s.clock ∧
    (clearNotices s).setup = s.setup ∧ (clearNotices s).src = s.src ∧ (clearNotices s).gauge = s.gauge ∧
    (clearNotices s).bright = s.bright ∧ (clearNotices s).drv = s.drv ∧ (clearNotices s).motion = s.motion ∧
    (clearNotices s).hist = s.hist ∧ (clearNotices s).req = s.req ∧ (clearNotices s).link = s.link ∧
    (clearNotices s).pages = s.pages := by
  simp only [clearNotices]
  (repeat' split) <;> simp

@[simp] theorem finishEntry_frame (e : EntryId) (r : ResultCode) (f : Nat) (d : List Byte) :
    (finishEntry e r f d s).pending = s.pending ∧ (finishEntry e r f d s).powered = s.powered ∧
    (finishEntry e r f d s).time = s.time ∧ (finishEntry e r f d s).draws = s.draws ∧
    (finishEntry e r f d s).clock = s.clock ∧ (finishEntry e r f d s).setup = s.setup ∧
    (finishEntry e r f d s).src = s.src ∧ (finishEntry e r f d s).gauge = s.gauge ∧
    (finishEntry e r f d s).bright = s.bright ∧ (finishEntry e r f d s).drv = s.drv ∧
    (finishEntry e r f d s).motion = s.motion ∧ (finishEntry e r f d s).hist = s.hist ∧
    (finishEntry e r f d s).notices = s.notices ∧ (finishEntry e r f d s).routes = s.routes ∧
    (finishEntry e r f d s).pages = s.pages ∧ (finishEntry e r f d s).link.up = s.link.up ∧
    (finishEntry e r f d s).link.platformLow = s.link.platformLow ∧
    (finishEntry e r f d s).link.mask = s.link.mask ∧ (finishEntry e r f d s).link.arm = s.link.arm ∧
    (finishEntry e r f d s).link.setupTaken = s.link.setupTaken ∧
    (finishEntry e r f d s).link.lastRefused = s.link.lastRefused ∧
    (finishEntry e r f d s).link.resetCause = s.link.resetCause ∧
    (finishEntry e r f d s).link.readData = s.link.readData := by
  simp only [finishEntry]
  (repeat' split) <;> simp

@[simp] theorem finishUnit_frame (u : UnitId) (r : ResultCode) (f : Nat) (d : List Byte) :
    (finishUnit u r f d s).pending = s.pending ∧ (finishUnit u r f d s).powered = s.powered ∧
    (finishUnit u r f d s).time = s.time ∧ (finishUnit u r f d s).draws = s.draws ∧
    (finishUnit u r f d s).clock = s.clock ∧ (finishUnit u r f d s).setup = s.setup ∧
    (finishUnit u r f d s).src = s.src ∧ (finishUnit u r f d s).gauge = s.gauge ∧
    (finishUnit u r f d s).bright = s.bright ∧ (finishUnit u r f d s).drv = s.drv ∧
    (finishUnit u r f d s).motion = s.motion ∧ (finishUnit u r f d s).hist = s.hist ∧
    (finishUnit u r f d s).notices = s.notices ∧ (finishUnit u r f d s).routes = s.routes ∧
    (finishUnit u r f d s).pages = s.pages ∧ (finishUnit u r f d s).link.up = s.link.up ∧
    (finishUnit u r f d s).link.platformLow = s.link.platformLow ∧
    (finishUnit u r f d s).link.mask = s.link.mask ∧ (finishUnit u r f d s).link.arm = s.link.arm ∧
    (finishUnit u r f d s).link.setupTaken = s.link.setupTaken ∧
    (finishUnit u r f d s).link.lastRefused = s.link.lastRefused ∧
    (finishUnit u r f d s).link.resetCause = s.link.resetCause ∧
    (finishUnit u r f d s).link.readData = s.link.readData := by
  simp only [finishUnit]
  (repeat' split) <;> simp

@[simp] theorem judgeBacklight_frame :
    (judgeBacklight s).pending = s.pending ∧ (judgeBacklight s).powered = s.powered ∧
    (judgeBacklight s).time = s.time ∧ (judgeBacklight s).draws = s.draws ∧ (judgeBacklight s).clock = s.clock ∧
    (judgeBacklight s).setup = s.setup ∧ (judgeBacklight s).src = s.src ∧ (judgeBacklight s).gauge = s.gauge ∧
    (judgeBacklight s).bright = s.bright ∧ (judgeBacklight s).motion = s.motion ∧
    (judgeBacklight s).hist = s.hist ∧ (judgeBacklight s).req = s.req ∧ (judgeBacklight s).notices = s.notices ∧
    (judgeBacklight s).routes = s.routes ∧ (judgeBacklight s).link = s.link ∧ (judgeBacklight s).pages = s.pages := by
  simp only [judgeBacklight]
  (repeat' split) <;> simp

@[simp] theorem handOver_frame (c : Nat) (z : Bool) :
    (handOver c z s).pending = s.pending ∧ (handOver c z s).powered = s.powered ∧
    (handOver c z s).time = s.time ∧ (handOver c z s).draws = s.draws ∧ (handOver c z s).clock = s.clock ∧
    (handOver c z s).setup = s.setup ∧ (handOver c z s).src = s.src ∧ (handOver c z s).gauge = s.gauge ∧
    (handOver c z s).bright = s.bright ∧ (handOver c z s).motion = s.motion ∧ (handOver c z s).hist = s.hist ∧
    (handOver c z s).req = s.req ∧ (handOver c z s).notices = s.notices ∧ (handOver c z s).routes = s.routes ∧
    (handOver c z s).link = s.link ∧ (handOver c z s).pages = s.pages := by
  simp only [handOver]
  (repeat' split) <;> simp

@[simp] theorem driverSetup_frame :
    (driverSetup s).pending = s.pending ∧ (driverSetup s).powered = s.powered ∧ (driverSetup s).time = s.time ∧
    (driverSetup s).draws = s.draws ∧ (driverSetup s).clock = s.clock ∧ (driverSetup s).setup = s.setup ∧
    (driverSetup s).src = s.src ∧ (driverSetup s).gauge = s.gauge ∧ (driverSetup s).bright = s.bright ∧
    (driverSetup s).motion = s.motion ∧ (driverSetup s).hist = s.hist ∧ (driverSetup s).req = s.req ∧
    (driverSetup s).notices = s.notices ∧ (driverSetup s).routes = s.routes ∧ (driverSetup s).link = s.link ∧
    (driverSetup s).pages = s.pages := by
  simp only [driverSetup]
  (repeat' split) <;> simp

@[simp] theorem endHostRequest_frame (g : Group) (r : ResultCode) (f : Nat) :
    (endHostRequest g r f s).pending = s.pending ∧ (endHostRequest g r f s).powered = s.powered ∧
    (endHostRequest g r f s).time = s.time ∧ (endHostRequest g r f s).draws = s.draws ∧
    (endHostRequest g r f s).clock = s.clock ∧ (endHostRequest g r f s).setup = s.setup ∧
    (endHostRequest g r f s).src = s.src ∧ (endHostRequest g r f s).gauge = s.gauge ∧
    (endHostRequest g r f s).bright = s.bright ∧ (endHostRequest g r f s).drv = s.drv ∧
    (endHostRequest g r f s).motion = s.motion ∧ (endHostRequest g r f s).hist = s.hist ∧
    (endHostRequest g r f s).notices = s.notices ∧ (endHostRequest g r f s).routes = s.routes ∧
    (endHostRequest g r f s).pages = s.pages ∧ (endHostRequest g r f s).link.up = s.link.up ∧
    (endHostRequest g r f s).link.platformLow = s.link.platformLow ∧
    (endHostRequest g r f s).link.mask = s.link.mask ∧ (endHostRequest g r f s).link.arm = s.link.arm ∧
    (endHostRequest g r f s).link.setupTaken = s.link.setupTaken ∧
    (endHostRequest g r f s).link.lastRefused = s.link.lastRefused ∧
    (endHostRequest g r f s).link.resetCause = s.link.resetCause ∧
    (endHostRequest g r f s).link.readData = s.link.readData := by
  simp only [endHostRequest]
  (repeat' split) <;> simp

@[simp] theorem waitGroup_frame (g : Group) :
    (waitGroup g s).pending = s.pending ∧ (waitGroup g s).powered = s.powered ∧ (waitGroup g s).time = s.time ∧
    (waitGroup g s).draws = s.draws ∧ (waitGroup g s).clock = s.clock ∧ (waitGroup g s).setup = s.setup ∧
    (waitGroup g s).src = s.src ∧ (waitGroup g s).gauge = s.gauge ∧ (waitGroup g s).bright = s.bright ∧
    (waitGroup g s).motion = s.motion ∧ (waitGroup g s).hist = s.hist ∧ (waitGroup g s).notices = s.notices ∧
    (waitGroup g s).routes = s.routes ∧ (waitGroup g s).pages = s.pages ∧ (waitGroup g s).link.up = s.link.up ∧
    (waitGroup g s).link.platformLow = s.link.platformLow ∧ (waitGroup g s).link.mask = s.link.mask ∧
    (waitGroup g s).link.arm = s.link.arm ∧ (waitGroup g s).link.setupTaken = s.link.setupTaken ∧
    (waitGroup g s).link.lastRefused = s.link.lastRefused ∧ (waitGroup g s).link.resetCause = s.link.resetCause ∧
    (waitGroup g s).link.readData = s.link.readData := by
  simp only [waitGroup]
  (repeat' split) <;> simp

@[simp] theorem giveGroup_frame (g : Group) :
    (giveGroup g s).pending = s.pending ∧ (giveGroup g s).powered = s.powered ∧ (giveGroup g s).time = s.time ∧
    (giveGroup g s).draws = s.draws ∧ (giveGroup g s).clock = s.clock ∧ (giveGroup g s).setup = s.setup ∧
    (giveGroup g s).src = s.src ∧ (giveGroup g s).gauge = s.gauge ∧ (giveGroup g s).bright = s.bright ∧
    (giveGroup g s).motion = s.motion ∧ (giveGroup g s).hist = s.hist ∧ (giveGroup g s).notices = s.notices ∧
    (giveGroup g s).routes = s.routes ∧ (giveGroup g s).pages = s.pages ∧ (giveGroup g s).link.up = s.link.up ∧
    (giveGroup g s).link.platformLow = s.link.platformLow ∧ (giveGroup g s).link.mask = s.link.mask ∧
    (giveGroup g s).link.arm = s.link.arm ∧ (giveGroup g s).link.setupTaken = s.link.setupTaken ∧
    (giveGroup g s).link.lastRefused = s.link.lastRefused ∧ (giveGroup g s).link.resetCause = s.link.resetCause ∧
    (giveGroup g s).link.readData = s.link.readData := by
  simp only [giveGroup]
  (repeat' split) <;> simp

@[simp] theorem startWaiting_frame :
    (startWaiting s).pending = s.pending ∧ (startWaiting s).powered = s.powered ∧
    (startWaiting s).time = s.time ∧ (startWaiting s).draws = s.draws ∧ (startWaiting s).clock = s.clock ∧
    (startWaiting s).setup = s.setup ∧ (startWaiting s).src = s.src ∧ (startWaiting s).gauge = s.gauge ∧
    (startWaiting s).bright = s.bright ∧ (startWaiting s).motion = s.motion ∧ (startWaiting s).hist = s.hist ∧
    (startWaiting s).req = s.req ∧ (startWaiting s).notices = s.notices ∧ (startWaiting s).routes = s.routes ∧
    (startWaiting s).link = s.link ∧ (startWaiting s).pages = s.pages := by
  simp only [startWaiting]
  (repeat' split) <;> simp

@[simp] theorem groupRan_frame (g : Group) :
    (groupRan g s).pending = s.pending ∧ (groupRan g s).powered = s.powered ∧ (groupRan g s).time = s.time ∧
    (groupRan g s).draws = s.draws ∧ (groupRan g s).clock = s.clock ∧ (groupRan g s).setup = s.setup ∧
    (groupRan g s).src = s.src ∧ (groupRan g s).gauge = s.gauge ∧ (groupRan g s).bright = s.bright ∧
    (groupRan g s).motion = s.motion ∧ (groupRan g s).hist = s.hist ∧ (groupRan g s).notices = s.notices ∧
    (groupRan g s).routes = s.routes ∧ (groupRan g s).pages = s.pages ∧ (groupRan g s).link.up = s.link.up ∧
    (groupRan g s).link.platformLow = s.link.platformLow ∧ (groupRan g s).link.mask = s.link.mask ∧
    (groupRan g s).link.arm = s.link.arm ∧ (groupRan g s).link.setupTaken = s.link.setupTaken ∧
    (groupRan g s).link.lastRefused = s.link.lastRefused ∧ (groupRan g s).link.resetCause = s.link.resetCause ∧
    (groupRan g s).link.readData = s.link.readData := by
  simp only [groupRan]
  (repeat' split) <;> simp

@[simp] theorem endHostGroup_frame (r : Option ResultCode) :
    (endHostGroup r s).pending = s.pending ∧ (endHostGroup r s).powered = s.powered ∧
    (endHostGroup r s).time = s.time ∧ (endHostGroup r s).draws = s.draws ∧ (endHostGroup r s).clock = s.clock ∧
    (endHostGroup r s).setup = s.setup ∧ (endHostGroup r s).src = s.src ∧ (endHostGroup r s).gauge = s.gauge ∧
    (endHostGroup r s).bright = s.bright ∧ (endHostGroup r s).motion = s.motion ∧
    (endHostGroup r s).hist = s.hist ∧ (endHostGroup r s).notices = s.notices ∧
    (endHostGroup r s).routes = s.routes ∧ (endHostGroup r s).pages = s.pages ∧
    (endHostGroup r s).link.up = s.link.up ∧ (endHostGroup r s).link.platformLow = s.link.platformLow ∧
    (endHostGroup r s).link.mask = s.link.mask ∧ (endHostGroup r s).link.arm = s.link.arm ∧
    (endHostGroup r s).link.setupTaken = s.link.setupTaken ∧
    (endHostGroup r s).link.lastRefused = s.link.lastRefused ∧
    (endHostGroup r s).link.resetCause = s.link.resetCause ∧ (endHostGroup r s).link.readData = s.link.readData := by
  simp only [endHostGroup]
  (repeat' split) <;> simp

@[simp] theorem onTimeEnd_frame :
    (onTimeEnd s).pending = s.pending ∧ (onTimeEnd s).powered = s.powered ∧ (onTimeEnd s).time = s.time ∧
    (onTimeEnd s).draws = s.draws ∧ (onTimeEnd s).clock = s.clock ∧ (onTimeEnd s).setup = s.setup ∧
    (onTimeEnd s).src = s.src ∧ (onTimeEnd s).gauge = s.gauge ∧ (onTimeEnd s).bright = s.bright ∧
    (onTimeEnd s).motion = s.motion ∧ (onTimeEnd s).hist = s.hist ∧ (onTimeEnd s).req = s.req ∧
    (onTimeEnd s).notices = s.notices ∧ (onTimeEnd s).routes = s.routes ∧ (onTimeEnd s).link = s.link ∧
    (onTimeEnd s).pages = s.pages := by
  simp only [onTimeEnd]
  (repeat' split) <;> simp

@[simp] theorem offTimeEnd_frame :
    (offTimeEnd s).pending = s.pending ∧ (offTimeEnd s).powered = s.powered ∧ (offTimeEnd s).time = s.time ∧
    (offTimeEnd s).draws = s.draws ∧ (offTimeEnd s).clock = s.clock ∧ (offTimeEnd s).setup = s.setup ∧
    (offTimeEnd s).src = s.src ∧ (offTimeEnd s).gauge = s.gauge ∧ (offTimeEnd s).bright = s.bright ∧
    (offTimeEnd s).motion = s.motion ∧ (offTimeEnd s).hist = s.hist ∧ (offTimeEnd s).notices = s.notices ∧
    (offTimeEnd s).routes = s.routes ∧ (offTimeEnd s).pages = s.pages ∧ (offTimeEnd s).link.up = s.link.up ∧
    (offTimeEnd s).link.platformLow = s.link.platformLow ∧ (offTimeEnd s).link.mask = s.link.mask ∧
    (offTimeEnd s).link.arm = s.link.arm ∧ (offTimeEnd s).link.setupTaken = s.link.setupTaken ∧
    (offTimeEnd s).link.lastRefused = s.link.lastRefused ∧ (offTimeEnd s).link.resetCause = s.link.resetCause ∧
    (offTimeEnd s).link.readData = s.link.readData := by
  simp only [offTimeEnd]
  (repeat' split) <;> simp

@[simp] theorem delayExpiry_frame :
    (delayExpiry s).pending = s.pending ∧ (delayExpiry s).powered = s.powered ∧ (delayExpiry s).time = s.time ∧
    (delayExpiry s).draws = s.draws ∧ (delayExpiry s).clock = s.clock ∧ (delayExpiry s).setup = s.setup ∧
    (delayExpiry s).src = s.src ∧ (delayExpiry s).gauge = s.gauge ∧ (delayExpiry s).bright = s.bright ∧
    (delayExpiry s).motion = s.motion ∧ (delayExpiry s).hist = s.hist ∧ (delayExpiry s).req = s.req ∧
    (delayExpiry s).notices = s.notices ∧ (delayExpiry s).routes = s.routes ∧ (delayExpiry s).link = s.link ∧
    (delayExpiry s).pages = s.pages := by
  simp only [delayExpiry]
  (repeat' split) <;> simp

@[simp] theorem frameBoundary_frame :
    (frameBoundary s).pending = s.pending ∧ (frameBoundary s).powered = s.powered ∧
    (frameBoundary s).time = s.time ∧ (frameBoundary s).draws = s.draws ∧ (frameBoundary s).clock = s.clock ∧
    (frameBoundary s).setup = s.setup ∧ (frameBoundary s).src = s.src ∧ (frameBoundary s).gauge = s.gauge ∧
    (frameBoundary s).bright = s.bright ∧ (frameBoundary s).motion = s.motion ∧ (frameBoundary s).hist = s.hist ∧
    (frameBoundary s).req = s.req ∧ (frameBoundary s).notices = s.notices ∧ (frameBoundary s).routes = s.routes ∧
    (frameBoundary s).link = s.link ∧ (frameBoundary s).pages = s.pages := by
  simp only [frameBoundary]
  (repeat' split) <;> simp

@[simp] theorem changeAllowance_frame (x : Bool) (c : AllowanceCause) :
    (changeAllowance x c s).pending = s.pending ∧ (changeAllowance x c s).powered = s.powered ∧
    (changeAllowance x c s).time = s.time ∧ (changeAllowance x c s).draws = s.draws ∧
    (changeAllowance x c s).clock = s.clock ∧ (changeAllowance x c s).setup = s.setup ∧
    (changeAllowance x c s).src = s.src ∧ (changeAllowance x c s).gauge = s.gauge ∧
    (changeAllowance x c s).drv = s.drv ∧ (changeAllowance x c s).motion = s.motion ∧
    (changeAllowance x c s).hist = s.hist ∧ (changeAllowance x c s).req = s.req ∧
    (changeAllowance x c s).routes = s.routes ∧ (changeAllowance x c s).pages = s.pages ∧
    (changeAllowance x c s).link.up = s.link.up ∧ (changeAllowance x c s).link.platformLow = s.link.platformLow ∧
    (changeAllowance x c s).link.memory = s.link.memory ∧ (changeAllowance x c s).link.mask = s.link.mask ∧
    (changeAllowance x c s).link.arm = s.link.arm ∧ (changeAllowance x c s).link.setupTaken = s.link.setupTaken ∧
    (changeAllowance x c s).link.lastRefused = s.link.lastRefused ∧
    (changeAllowance x c s).link.resetCause = s.link.resetCause ∧
    (changeAllowance x c s).link.readData = s.link.readData := by
  simp only [changeAllowance]
  (repeat' split) <;> simp

@[simp] theorem judgeAllowance_frame (x : Bool) :
    (judgeAllowance x s).pending = s.pending ∧ (judgeAllowance x s).powered = s.powered ∧
    (judgeAllowance x s).time = s.time ∧ (judgeAllowance x s).draws = s.draws ∧
    (judgeAllowance x s).clock = s.clock ∧ (judgeAllowance x s).setup = s.setup ∧
    (judgeAllowance x s).src = s.src ∧ (judgeAllowance x s).gauge = s.gauge ∧ (judgeAllowance x s).drv = s.drv ∧
    (judgeAllowance x s).motion = s.motion ∧ (judgeAllowance x s).hist = s.hist ∧
    (judgeAllowance x s).req = s.req ∧ (judgeAllowance x s).routes = s.routes ∧
    (judgeAllowance x s).pages = s.pages ∧ (judgeAllowance x s).link.up = s.link.up ∧
    (judgeAllowance x s).link.platformLow = s.link.platformLow ∧
    (judgeAllowance x s).link.memory = s.link.memory ∧ (judgeAllowance x s).link.mask = s.link.mask ∧
    (judgeAllowance x s).link.arm = s.link.arm ∧ (judgeAllowance x s).link.setupTaken = s.link.setupTaken ∧
    (judgeAllowance x s).link.lastRefused = s.link.lastRefused ∧
    (judgeAllowance x s).link.resetCause = s.link.resetCause ∧
    (judgeAllowance x s).link.readData = s.link.readData := by
  simp only [judgeAllowance]
  (repeat' split) <;> simp

@[simp] theorem runChain_frame :
    (runChain s).pending = s.pending ∧ (runChain s).powered = s.powered ∧ (runChain s).time = s.time ∧
    (runChain s).draws = s.draws ∧ (runChain s).clock = s.clock ∧ (runChain s).setup = s.setup ∧
    (runChain s).src = s.src ∧ (runChain s).gauge = s.gauge ∧ (runChain s).drv = s.drv ∧
    (runChain s).motion = s.motion ∧ (runChain s).hist = s.hist ∧ (runChain s).req = s.req ∧
    (runChain s).routes = s.routes ∧ (runChain s).link.up = s.link.up ∧
    (runChain s).link.platformLow = s.link.platformLow ∧ (runChain s).link.memory = s.link.memory ∧
    (runChain s).link.mask = s.link.mask ∧ (runChain s).link.arm = s.link.arm ∧
    (runChain s).link.setupTaken = s.link.setupTaken ∧ (runChain s).link.lastRefused = s.link.lastRefused ∧
    (runChain s).link.resetCause = s.link.resetCause ∧ (runChain s).link.readData = s.link.readData := by
  simp only [runChain]
  (repeat' split) <;> simp

@[simp] theorem handCompare_frame :
    (handCompare s).pending = s.pending ∧ (handCompare s).powered = s.powered ∧ (handCompare s).time = s.time ∧
    (handCompare s).draws = s.draws ∧ (handCompare s).clock = s.clock ∧ (handCompare s).setup = s.setup ∧
    (handCompare s).src = s.src ∧ (handCompare s).gauge = s.gauge ∧ (handCompare s).motion = s.motion ∧
    (handCompare s).hist = s.hist ∧ (handCompare s).req = s.req ∧ (handCompare s).notices = s.notices ∧
    (handCompare s).routes = s.routes ∧ (handCompare s).link = s.link ∧ (handCompare s).pages = s.pages := by
  simp only [handCompare]
  (repeat' split) <;> simp

@[simp] theorem evaluate_frame (x : Bool) :
    (evaluate x s).pending = s.pending ∧ (evaluate x s).powered = s.powered ∧ (evaluate x s).time = s.time ∧
    (evaluate x s).draws = s.draws ∧ (evaluate x s).clock = s.clock ∧ (evaluate x s).setup = s.setup ∧
    (evaluate x s).src = s.src ∧ (evaluate x s).gauge = s.gauge ∧ (evaluate x s).motion = s.motion ∧
    (evaluate x s).hist = s.hist ∧ (evaluate x s).req = s.req ∧ (evaluate x s).routes = s.routes ∧
    (evaluate x s).link.up = s.link.up ∧ (evaluate x s).link.platformLow = s.link.platformLow ∧
    (evaluate x s).link.memory = s.link.memory ∧ (evaluate x s).link.mask = s.link.mask ∧
    (evaluate x s).link.arm = s.link.arm ∧ (evaluate x s).link.setupTaken = s.link.setupTaken ∧
    (evaluate x s).link.lastRefused = s.link.lastRefused ∧ (evaluate x s).link.resetCause = s.link.resetCause ∧
    (evaluate x s).link.readData = s.link.readData := by
  simp only [evaluate]
  (repeat' split) <;> simp

@[simp] theorem installStaged_frame :
    (installStaged s).pending = s.pending ∧ (installStaged s).powered = s.powered ∧
    (installStaged s).time = s.time ∧ (installStaged s).draws = s.draws ∧ (installStaged s).clock = s.clock ∧
    (installStaged s).setup = s.setup ∧ (installStaged s).src = s.src ∧ (installStaged s).gauge = s.gauge ∧
    (installStaged s).drv = s.drv ∧ (installStaged s).motion = s.motion ∧ (installStaged s).hist = s.hist ∧
    (installStaged s).notices = s.notices ∧ (installStaged s).routes = s.routes ∧
    (installStaged s).pages = s.pages ∧ (installStaged s).link.up = s.link.up ∧
    (installStaged s).link.platformLow = s.link.platformLow ∧ (installStaged s).link.mask = s.link.mask ∧
    (installStaged s).link.arm = s.link.arm ∧ (installStaged s).link.setupTaken = s.link.setupTaken ∧
    (installStaged s).link.lastRefused = s.link.lastRefused ∧
    (installStaged s).link.resetCause = s.link.resetCause ∧ (installStaged s).link.readData = s.link.readData := by
  simp only [installStaged]
  (repeat' split) <;> simp

@[simp] theorem rampStep_frame :
    (rampStep s).pending = s.pending ∧ (rampStep s).powered = s.powered ∧ (rampStep s).time = s.time ∧
    (rampStep s).draws = s.draws ∧ (rampStep s).clock = s.clock ∧ (rampStep s).setup = s.setup ∧
    (rampStep s).src = s.src ∧ (rampStep s).gauge = s.gauge ∧ (rampStep s).motion = s.motion ∧
    (rampStep s).hist = s.hist ∧ (rampStep s).routes = s.routes ∧ (rampStep s).link.up = s.link.up ∧
    (rampStep s).link.platformLow = s.link.platformLow ∧ (rampStep s).link.mask = s.link.mask ∧
    (rampStep s).link.arm = s.link.arm ∧ (rampStep s).link.setupTaken = s.link.setupTaken ∧
    (rampStep s).link.lastRefused = s.link.lastRefused ∧ (rampStep s).link.resetCause = s.link.resetCause ∧
    (rampStep s).link.readData = s.link.readData := by
  simp only [rampStep]
  (repeat' split) <;> simp

@[simp] theorem takeSample_frame (c : Nat) :
    (takeSample c s).pending = s.pending ∧ (takeSample c s).powered = s.powered ∧
    (takeSample c s).time = s.time ∧ (takeSample c s).draws = s.draws ∧ (takeSample c s).clock = s.clock ∧
    (takeSample c s).setup = s.setup ∧ (takeSample c s).src = s.src ∧ (takeSample c s).gauge = s.gauge ∧
    (takeSample c s).drv = s.drv ∧ (takeSample c s).motion = s.motion ∧ (takeSample c s).hist = s.hist ∧
    (takeSample c s).req = s.req ∧ (takeSample c s).routes = s.routes ∧ (takeSample c s).pages = s.pages ∧
    (takeSample c s).link.up = s.link.up ∧ (takeSample c s).link.platformLow = s.link.platformLow ∧
    (takeSample c s).link.memory = s.link.memory ∧ (takeSample c s).link.mask = s.link.mask ∧
    (takeSample c s).link.arm = s.link.arm ∧ (takeSample c s).link.setupTaken = s.link.setupTaken ∧
    (takeSample c s).link.lastRefused = s.link.lastRefused ∧
    (takeSample c s).link.resetCause = s.link.resetCause ∧ (takeSample c s).link.readData = s.link.readData := by
  simp only [takeSample]
  (repeat' split) <;> simp

@[simp] theorem lightSample_frame (c : Nat) :
    (lightSample c s).pending = s.pending ∧ (lightSample c s).powered = s.powered ∧
    (lightSample c s).time = s.time ∧ (lightSample c s).draws = s.draws ∧ (lightSample c s).clock = s.clock ∧
    (lightSample c s).setup = s.setup ∧ (lightSample c s).src = s.src ∧ (lightSample c s).gauge = s.gauge ∧
    (lightSample c s).motion = s.motion ∧ (lightSample c s).hist = s.hist ∧ (lightSample c s).req = s.req ∧
    (lightSample c s).routes = s.routes ∧ (lightSample c s).link.up = s.link.up ∧
    (lightSample c s).link.platformLow = s.link.platformLow ∧ (lightSample c s).link.memory = s.link.memory ∧
    (lightSample c s).link.mask = s.link.mask ∧ (lightSample c s).link.arm = s.link.arm ∧
    (lightSample c s).link.setupTaken = s.link.setupTaken ∧
    (lightSample c s).link.lastRefused = s.link.lastRefused ∧
    (lightSample c s).link.resetCause = s.link.resetCause ∧ (lightSample c s).link.readData = s.link.readData := by
  simp only [lightSample]
  (repeat' split) <;> simp

@[simp] theorem brightSystem_frame (x y : SysState) :
    (brightSystem x y s).pending = s.pending ∧ (brightSystem x y s).powered = s.powered ∧
    (brightSystem x y s).time = s.time ∧ (brightSystem x y s).draws = s.draws ∧
    (brightSystem x y s).clock = s.clock ∧ (brightSystem x y s).setup = s.setup ∧
    (brightSystem x y s).src = s.src ∧ (brightSystem x y s).gauge = s.gauge ∧
    (brightSystem x y s).motion = s.motion ∧ (brightSystem x y s).hist = s.hist ∧
    (brightSystem x y s).req = s.req ∧ (brightSystem x y s).routes = s.routes ∧
    (brightSystem x y s).link.up = s.link.up ∧ (brightSystem x y s).link.platformLow = s.link.platformLow ∧
    (brightSystem x y s).link.memory = s.link.memory ∧ (brightSystem x y s).link.mask = s.link.mask ∧
    (brightSystem x y s).link.arm = s.link.arm ∧ (brightSystem x y s).link.setupTaken = s.link.setupTaken ∧
    (brightSystem x y s).link.lastRefused = s.link.lastRefused ∧
    (brightSystem x y s).link.resetCause = s.link.resetCause ∧
    (brightSystem x y s).link.readData = s.link.readData := by
  simp only [brightSystem]
  (repeat' split) <;> simp

end Sys2Proof.Machine
end

