-- ==== Sys2Proof/Laws/FrameHistory.lean ====
section
/-! SUPPORT. What each operation of the History Unit leaves unchanged: one lemma each. -/

namespace Sys2Proof.Machine

variable (s : State)

/-- A fold whose every step keeps a view of the state keeps it. -/
theorem foldl_keeps {α β γ : Type} (v : β → γ) (f : β → α → β) (h : ∀ b a, v (f b a) = v b) (l : List α) (b : β) :
    v (l.foldl f b) = v b := by
  induction l generalizing b with
  | nil => rfl
  | cons a l ih => rw [List.foldl_cons, ih, h]

@[simp] theorem loseRecord_frame (k : RecordKind) (r : LostReason) :
    (loseRecord k r s).pending = s.pending ∧ (loseRecord k r s).powered = s.powered ∧
    (loseRecord k r s).time = s.time ∧ (loseRecord k r s).draws = s.draws ∧ (loseRecord k r s).clock = s.clock ∧
    (loseRecord k r s).setup = s.setup ∧ (loseRecord k r s).src = s.src ∧ (loseRecord k r s).gauge = s.gauge ∧
    (loseRecord k r s).bright = s.bright ∧ (loseRecord k r s).drv = s.drv ∧
    (loseRecord k r s).motion = s.motion ∧ (loseRecord k r s).req = s.req ∧
    (loseRecord k r s).routes = s.routes ∧ (loseRecord k r s).link.up = s.link.up ∧
    (loseRecord k r s).link.platformLow = s.link.platformLow ∧ (loseRecord k r s).link.memory = s.link.memory ∧
    (loseRecord k r s).link.mask = s.link.mask ∧ (loseRecord k r s).link.arm = s.link.arm ∧
    (loseRecord k r s).link.setupTaken = s.link.setupTaken ∧
    (loseRecord k r s).link.lastRefused = s.link.lastRefused ∧
    (loseRecord k r s).link.resetCause = s.link.resetCause ∧ (loseRecord k r s).link.readData = s.link.readData := by
  simp only [loseRecord]
  (repeat' split) <;> simp

@[simp] theorem handRecord_frame (r : HistRecord) :
    (handRecord r s).pending = s.pending ∧ (handRecord r s).powered = s.powered ∧
    (handRecord r s).time = s.time ∧ (handRecord r s).draws = s.draws ∧ (handRecord r s).clock = s.clock ∧
    (handRecord r s).setup = s.setup ∧ (handRecord r s).src = s.src ∧ (handRecord r s).gauge = s.gauge ∧
    (handRecord r s).bright = s.bright ∧ (handRecord r s).drv = s.drv ∧ (handRecord r s).motion = s.motion ∧
    (handRecord r s).req = s.req ∧ (handRecord r s).routes = s.routes ∧ (handRecord r s).link.up = s.link.up ∧
    (handRecord r s).link.platformLow = s.link.platformLow ∧ (handRecord r s).link.memory = s.link.memory ∧
    (handRecord r s).link.mask = s.link.mask ∧ (handRecord r s).link.arm = s.link.arm ∧
    (handRecord r s).link.setupTaken = s.link.setupTaken ∧
    (handRecord r s).link.lastRefused = s.link.lastRefused ∧
    (handRecord r s).link.resetCause = s.link.resetCause ∧ (handRecord r s).link.readData = s.link.readData := by
  simp only [handRecord]
  (repeat' split) <;> simp

@[simp] theorem issueHoldups_frame :
    (issueHoldups s).pending = s.pending ∧ (issueHoldups s).powered = s.powered ∧
    (issueHoldups s).time = s.time ∧ (issueHoldups s).draws = s.draws ∧ (issueHoldups s).clock = s.clock ∧
    (issueHoldups s).setup = s.setup ∧ (issueHoldups s).gauge = s.gauge ∧ (issueHoldups s).bright = s.bright ∧
    (issueHoldups s).drv = s.drv ∧ (issueHoldups s).motion = s.motion ∧ (issueHoldups s).req = s.req ∧
    (issueHoldups s).routes = s.routes ∧ (issueHoldups s).link.up = s.link.up ∧
    (issueHoldups s).link.platformLow = s.link.platformLow ∧ (issueHoldups s).link.memory = s.link.memory ∧
    (issueHoldups s).link.mask = s.link.mask ∧ (issueHoldups s).link.arm = s.link.arm ∧
    (issueHoldups s).link.setupTaken = s.link.setupTaken ∧
    (issueHoldups s).link.lastRefused = s.link.lastRefused ∧
    (issueHoldups s).link.resetCause = s.link.resetCause ∧ (issueHoldups s).link.readData = s.link.readData := 
  ⟨foldl_keeps (fun t : State => t.pending) _ (fun _ _ => by simp) _ _,
   foldl_keeps (fun t : State => t.powered) _ (fun _ _ => by simp) _ _,
   foldl_keeps (fun t : State => t.time) _ (fun _ _ => by simp) _ _,
   foldl_keeps (fun t : State => t.draws) _ (fun _ _ => by simp) _ _,
   foldl_keeps (fun t : State => t.clock) _ (fun _ _ => by simp) _ _,
   foldl_keeps (fun t : State => t.setup) _ (fun _ _ => by simp) _ _,
   foldl_keeps (fun t : State => t.gauge) _ (fun _ _ => by simp) _ _,
   foldl_keeps (fun t : State => t.bright) _ (fun _ _ => by simp) _ _,
   foldl_keeps (fun t : State => t.drv) _ (fun _ _ => by simp) _ _,
   foldl_keeps (fun t : State => t.motion) _ (fun _ _ => by simp) _ _,
   foldl_keeps (fun t : State => t.req) _ (fun _ _ => by simp) _ _,
   foldl_keeps (fun t : State => t.routes) _ (fun _ _ => by simp) _ _,
   foldl_keeps (fun t : State => t.link.up) _ (fun _ _ => by simp) _ _,
   foldl_keeps (fun t : State => t.link.platformLow) _ (fun _ _ => by simp) _ _,
   foldl_keeps (fun t : State => t.link.memory) _ (fun _ _ => by simp) _ _,
   foldl_keeps (fun t : State => t.link.mask) _ (fun _ _ => by simp) _ _,
   foldl_keeps (fun t : State => t.link.arm) _ (fun _ _ => by simp) _ _,
   foldl_keeps (fun t : State => t.link.setupTaken) _ (fun _ _ => by simp) _ _,
   foldl_keeps (fun t : State => t.link.lastRefused) _ (fun _ _ => by simp) _ _,
   foldl_keeps (fun t : State => t.link.resetCause) _ (fun _ _ => by simp) _ _,
   foldl_keeps (fun t : State => t.link.readData) _ (fun _ _ => by simp) _ _⟩

@[simp] theorem loseList_frame (rs : List HistRecord) :
    (loseList rs s).pending = s.pending ∧ (loseList rs s).powered = s.powered ∧ (loseList rs s).time = s.time ∧
    (loseList rs s).draws = s.draws ∧ (loseList rs s).clock = s.clock ∧ (loseList rs s).setup = s.setup ∧
    (loseList rs s).src = s.src ∧ (loseList rs s).gauge = s.gauge ∧ (loseList rs s).bright = s.bright ∧
    (loseList rs s).drv = s.drv ∧ (loseList rs s).motion = s.motion ∧ (loseList rs s).req = s.req ∧
    (loseList rs s).routes = s.routes ∧ (loseList rs s).link.up = s.link.up ∧
    (loseList rs s).link.platformLow = s.link.platformLow ∧ (loseList rs s).link.memory = s.link.memory ∧
    (loseList rs s).link.mask = s.link.mask ∧ (loseList rs s).link.arm = s.link.arm ∧
    (loseList rs s).link.setupTaken = s.link.setupTaken ∧ (loseList rs s).link.lastRefused = s.link.lastRefused ∧
    (loseList rs s).link.resetCause = s.link.resetCause ∧ (loseList rs s).link.readData = s.link.readData := by
  induction rs generalizing s with
  | nil => simp [loseList]
  | cons r rs ih => simpa [loseList] using ih (loseRecord r.kind .fault s)

@[simp] theorem historyFault_frame (c : HistoryCause) (x : Byte) :
    (historyFault c x s).pending = s.pending ∧ (historyFault c x s).powered = s.powered ∧
    (historyFault c x s).time = s.time ∧ (historyFault c x s).draws = s.draws ∧
    (historyFault c x s).clock = s.clock ∧ (historyFault c x s).setup = s.setup ∧
    (historyFault c x s).src = s.src ∧ (historyFault c x s).gauge = s.gauge ∧
    (historyFault c x s).bright = s.bright ∧ (historyFault c x s).drv = s.drv ∧
    (historyFault c x s).motion = s.motion ∧ (historyFault c x s).routes = s.routes ∧
    (historyFault c x s).link.up = s.link.up ∧ (historyFault c x s).link.platformLow = s.link.platformLow ∧
    (historyFault c x s).link.mask = s.link.mask ∧ (historyFault c x s).link.arm = s.link.arm ∧
    (historyFault c x s).link.setupTaken = s.link.setupTaken ∧
    (historyFault c x s).link.lastRefused = s.link.lastRefused ∧
    (historyFault c x s).link.resetCause = s.link.resetCause ∧
    (historyFault c x s).link.readData = s.link.readData := by
  simp only [historyFault]
  (repeat' split) <;> simp

@[simp] theorem startErase_frame :
    (startErase s).pending = s.pending ∧ (startErase s).powered = s.powered ∧ (startErase s).time = s.time ∧
    (startErase s).draws = s.draws ∧ (startErase s).clock = s.clock ∧ (startErase s).setup = s.setup ∧
    (startErase s).src = s.src ∧ (startErase s).gauge = s.gauge ∧ (startErase s).bright = s.bright ∧
    (startErase s).drv = s.drv ∧ (startErase s).motion = s.motion ∧ (startErase s).req = s.req ∧
    (startErase s).routes = s.routes ∧ (startErase s).pages = s.pages ∧ (startErase s).link.up = s.link.up ∧
    (startErase s).link.platformLow = s.link.platformLow ∧ (startErase s).link.memory = s.link.memory ∧
    (startErase s).link.mask = s.link.mask ∧ (startErase s).link.arm = s.link.arm ∧
    (startErase s).link.setupTaken = s.link.setupTaken ∧ (startErase s).link.lastRefused = s.link.lastRefused ∧
    (startErase s).link.resetCause = s.link.resetCause ∧ (startErase s).link.readData = s.link.readData := by
  simp only [startErase]
  (repeat' split) <;> simp

@[simp] theorem startProgram_frame (r : HistRecord) :
    (startProgram r s).pending = s.pending ∧ (startProgram r s).powered = s.powered ∧
    (startProgram r s).time = s.time ∧ (startProgram r s).draws = s.draws ∧ (startProgram r s).clock = s.clock ∧
    (startProgram r s).setup = s.setup ∧ (startProgram r s).src = s.src ∧ (startProgram r s).gauge = s.gauge ∧
    (startProgram r s).bright = s.bright ∧ (startProgram r s).drv = s.drv ∧
    (startProgram r s).motion = s.motion ∧ (startProgram r s).req = s.req ∧
    (startProgram r s).notices = s.notices ∧ (startProgram r s).routes = s.routes ∧
    (startProgram r s).link = s.link := by
  simp only [startProgram]
  (repeat' split) <;> simp

@[simp] theorem tryRecord_frame (r : HistRecord) :
    (tryRecord r s).pending = s.pending ∧ (tryRecord r s).powered = s.powered ∧ (tryRecord r s).time = s.time ∧
    (tryRecord r s).draws = s.draws ∧ (tryRecord r s).clock = s.clock ∧ (tryRecord r s).setup = s.setup ∧
    (tryRecord r s).src = s.src ∧ (tryRecord r s).gauge = s.gauge ∧ (tryRecord r s).bright = s.bright ∧
    (tryRecord r s).drv = s.drv ∧ (tryRecord r s).motion = s.motion ∧ (tryRecord r s).req = s.req ∧
    (tryRecord r s).routes = s.routes ∧ (tryRecord r s).link.up = s.link.up ∧
    (tryRecord r s).link.platformLow = s.link.platformLow ∧ (tryRecord r s).link.memory = s.link.memory ∧
    (tryRecord r s).link.mask = s.link.mask ∧ (tryRecord r s).link.arm = s.link.arm ∧
    (tryRecord r s).link.setupTaken = s.link.setupTaken ∧ (tryRecord r s).link.lastRefused = s.link.lastRefused ∧
    (tryRecord r s).link.resetCause = s.link.resetCause ∧ (tryRecord r s).link.readData = s.link.readData := by
  simp only [tryRecord]
  (repeat' split) <;> simp

@[simp] theorem startStep_frame (p : Protect) :
    (startStep p s).pending = s.pending ∧ (startStep p s).powered = s.powered ∧ (startStep p s).time = s.time ∧
    (startStep p s).draws = s.draws ∧ (startStep p s).clock = s.clock ∧ (startStep p s).setup = s.setup ∧
    (startStep p s).src = s.src ∧ (startStep p s).gauge = s.gauge ∧ (startStep p s).bright = s.bright ∧
    (startStep p s).drv = s.drv ∧ (startStep p s).motion = s.motion ∧ (startStep p s).req = s.req ∧
    (startStep p s).notices = s.notices ∧ (startStep p s).routes = s.routes ∧ (startStep p s).link = s.link ∧
    (startStep p s).pages = s.pages := by
  simp only [startStep]
  (repeat' split) <;> simp

@[simp] theorem markStarted_frame (n : Note) :
    (markStarted n s).pending = s.pending ∧ (markStarted n s).powered = s.powered ∧
    (markStarted n s).time = s.time ∧ (markStarted n s).draws = s.draws ∧ (markStarted n s).clock = s.clock ∧
    (markStarted n s).setup = s.setup ∧ (markStarted n s).src = s.src ∧ (markStarted n s).gauge = s.gauge ∧
    (markStarted n s).bright = s.bright ∧ (markStarted n s).drv = s.drv ∧ (markStarted n s).motion = s.motion ∧
    (markStarted n s).req = s.req ∧ (markStarted n s).notices = s.notices ∧ (markStarted n s).routes = s.routes ∧
    (markStarted n s).link = s.link ∧ (markStarted n s).pages = s.pages := by
  simp only [markStarted]
  (repeat' split) <;> simp

@[simp] theorem tryNote_frame (n : Note) :
    (tryNote n s).pending = s.pending ∧ (tryNote n s).powered = s.powered ∧ (tryNote n s).time = s.time ∧
    (tryNote n s).draws = s.draws ∧ (tryNote n s).clock = s.clock ∧ (tryNote n s).setup = s.setup ∧
    (tryNote n s).src = s.src ∧ (tryNote n s).gauge = s.gauge ∧ (tryNote n s).bright = s.bright ∧
    (tryNote n s).drv = s.drv ∧ (tryNote n s).motion = s.motion ∧ (tryNote n s).req = s.req ∧
    (tryNote n s).routes = s.routes ∧ (tryNote n s).link.up = s.link.up ∧
    (tryNote n s).link.platformLow = s.link.platformLow ∧ (tryNote n s).link.memory = s.link.memory ∧
    (tryNote n s).link.mask = s.link.mask ∧ (tryNote n s).link.arm = s.link.arm ∧
    (tryNote n s).link.setupTaken = s.link.setupTaken ∧ (tryNote n s).link.lastRefused = s.link.lastRefused ∧
    (tryNote n s).link.resetCause = s.link.resetCause ∧ (tryNote n s).link.readData = s.link.readData := by
  simp only [tryNote]
  (repeat' split) <;> simp

@[simp] theorem hostWork_frame :
    (hostWork s).pending = s.pending ∧ (hostWork s).powered = s.powered ∧ (hostWork s).time = s.time ∧
    (hostWork s).draws = s.draws ∧ (hostWork s).clock = s.clock ∧ (hostWork s).setup = s.setup ∧
    (hostWork s).src = s.src ∧ (hostWork s).gauge = s.gauge ∧ (hostWork s).bright = s.bright ∧
    (hostWork s).drv = s.drv ∧ (hostWork s).motion = s.motion ∧ (hostWork s).req = s.req ∧
    (hostWork s).routes = s.routes ∧ (hostWork s).link.up = s.link.up ∧
    (hostWork s).link.platformLow = s.link.platformLow ∧ (hostWork s).link.memory = s.link.memory ∧
    (hostWork s).link.mask = s.link.mask ∧ (hostWork s).link.arm = s.link.arm ∧
    (hostWork s).link.setupTaken = s.link.setupTaken ∧ (hostWork s).link.lastRefused = s.link.lastRefused ∧
    (hostWork s).link.resetCause = s.link.resetCause ∧ (hostWork s).link.readData = s.link.readData := by
  simp only [hostWork]
  (repeat' split) <;> simp

@[simp] theorem arbitrate_frame :
    (arbitrate s).pending = s.pending ∧ (arbitrate s).powered = s.powered ∧ (arbitrate s).time = s.time ∧
    (arbitrate s).draws = s.draws ∧ (arbitrate s).clock = s.clock ∧ (arbitrate s).setup = s.setup ∧
    (arbitrate s).src = s.src ∧ (arbitrate s).gauge = s.gauge ∧ (arbitrate s).bright = s.bright ∧
    (arbitrate s).drv = s.drv ∧ (arbitrate s).motion = s.motion ∧ (arbitrate s).req = s.req ∧
    (arbitrate s).routes = s.routes ∧ (arbitrate s).link.up = s.link.up ∧
    (arbitrate s).link.platformLow = s.link.platformLow ∧ (arbitrate s).link.memory = s.link.memory ∧
    (arbitrate s).link.mask = s.link.mask ∧ (arbitrate s).link.arm = s.link.arm ∧
    (arbitrate s).link.setupTaken = s.link.setupTaken ∧ (arbitrate s).link.lastRefused = s.link.lastRefused ∧
    (arbitrate s).link.resetCause = s.link.resetCause ∧ (arbitrate s).link.readData = s.link.readData := by
  simp only [arbitrate]
  (repeat' split) <;> simp

@[simp] theorem afterStoring_frame (q : Nat) :
    (afterStoring q s).pending = s.pending ∧ (afterStoring q s).powered = s.powered ∧
    (afterStoring q s).time = s.time ∧ (afterStoring q s).draws = s.draws ∧ (afterStoring q s).clock = s.clock ∧
    (afterStoring q s).setup = s.setup ∧ (afterStoring q s).src = s.src ∧ (afterStoring q s).gauge = s.gauge ∧
    (afterStoring q s).bright = s.bright ∧ (afterStoring q s).drv = s.drv ∧
    (afterStoring q s).motion = s.motion ∧ (afterStoring q s).routes = s.routes ∧
    (afterStoring q s).link.up = s.link.up ∧ (afterStoring q s).link.platformLow = s.link.platformLow ∧
    (afterStoring q s).link.mask = s.link.mask ∧ (afterStoring q s).link.arm = s.link.arm ∧
    (afterStoring q s).link.setupTaken = s.link.setupTaken ∧
    (afterStoring q s).link.lastRefused = s.link.lastRefused ∧
    (afterStoring q s).link.resetCause = s.link.resetCause ∧ (afterStoring q s).link.readData = s.link.readData := by
  simp only [afterStoring]
  (repeat' split) <;> simp

@[simp] theorem recordStored_frame (a b q : Nat) :
    (recordStored a b q s).pending = s.pending ∧ (recordStored a b q s).powered = s.powered ∧
    (recordStored a b q s).time = s.time ∧ (recordStored a b q s).draws = s.draws ∧
    (recordStored a b q s).clock = s.clock ∧ (recordStored a b q s).setup = s.setup ∧
    (recordStored a b q s).src = s.src ∧ (recordStored a b q s).gauge = s.gauge ∧
    (recordStored a b q s).bright = s.bright ∧ (recordStored a b q s).drv = s.drv ∧
    (recordStored a b q s).motion = s.motion ∧ (recordStored a b q s).routes = s.routes ∧
    (recordStored a b q s).link.up = s.link.up ∧ (recordStored a b q s).link.platformLow = s.link.platformLow ∧
    (recordStored a b q s).link.mask = s.link.mask ∧ (recordStored a b q s).link.arm = s.link.arm ∧
    (recordStored a b q s).link.setupTaken = s.link.setupTaken ∧
    (recordStored a b q s).link.lastRefused = s.link.lastRefused ∧
    (recordStored a b q s).link.resetCause = s.link.resetCause ∧
    (recordStored a b q s).link.readData = s.link.readData := by
  simp only [recordStored]
  (repeat' split) <;> simp

@[simp] theorem recordFailed_frame (t q : Nat) :
    (recordFailed t q s).pending = s.pending ∧ (recordFailed t q s).powered = s.powered ∧
    (recordFailed t q s).time = s.time ∧ (recordFailed t q s).draws = s.draws ∧
    (recordFailed t q s).clock = s.clock ∧ (recordFailed t q s).setup = s.setup ∧
    (recordFailed t q s).src = s.src ∧ (recordFailed t q s).gauge = s.gauge ∧
    (recordFailed t q s).bright = s.bright ∧ (recordFailed t q s).drv = s.drv ∧
    (recordFailed t q s).motion = s.motion ∧ (recordFailed t q s).routes = s.routes ∧
    (recordFailed t q s).link.up = s.link.up ∧ (recordFailed t q s).link.platformLow = s.link.platformLow ∧
    (recordFailed t q s).link.mask = s.link.mask ∧ (recordFailed t q s).link.arm = s.link.arm ∧
    (recordFailed t q s).link.setupTaken = s.link.setupTaken ∧
    (recordFailed t q s).link.lastRefused = s.link.lastRefused ∧
    (recordFailed t q s).link.resetCause = s.link.resetCause ∧
    (recordFailed t q s).link.readData = s.link.readData := by
  simp only [recordFailed]
  (repeat' split) <;> simp

@[simp] theorem programDone_frame (c : Option (List Byte)) :
    (programDone c s).pending = s.pending ∧ (programDone c s).powered = s.powered ∧
    (programDone c s).time = s.time ∧ (programDone c s).draws = s.draws ∧ (programDone c s).clock = s.clock ∧
    (programDone c s).setup = s.setup ∧ (programDone c s).src = s.src ∧ (programDone c s).gauge = s.gauge ∧
    (programDone c s).bright = s.bright ∧ (programDone c s).drv = s.drv ∧ (programDone c s).motion = s.motion ∧
    (programDone c s).routes = s.routes ∧ (programDone c s).link.up = s.link.up ∧
    (programDone c s).link.platformLow = s.link.platformLow ∧ (programDone c s).link.mask = s.link.mask ∧
    (programDone c s).link.arm = s.link.arm ∧ (programDone c s).link.setupTaken = s.link.setupTaken ∧
    (programDone c s).link.lastRefused = s.link.lastRefused ∧
    (programDone c s).link.resetCause = s.link.resetCause ∧ (programDone c s).link.readData = s.link.readData := by
  simp only [programDone]
  (repeat' split) <;> simp

@[simp] theorem leaveScan_frame :
    (leaveScan s).pending = s.pending ∧ (leaveScan s).powered = s.powered ∧ (leaveScan s).time = s.time ∧
    (leaveScan s).draws = s.draws ∧ (leaveScan s).clock = s.clock ∧ (leaveScan s).setup = s.setup ∧
    (leaveScan s).src = s.src ∧ (leaveScan s).gauge = s.gauge ∧ (leaveScan s).bright = s.bright ∧
    (leaveScan s).drv = s.drv ∧ (leaveScan s).motion = s.motion ∧ (leaveScan s).req = s.req ∧
    (leaveScan s).notices = s.notices ∧ (leaveScan s).routes = s.routes ∧ (leaveScan s).link = s.link := by
  simp only [leaveScan]
  (repeat' split) <;> simp

@[simp] theorem scanOver_frame :
    (scanOver s).pending = s.pending ∧ (scanOver s).powered = s.powered ∧ (scanOver s).time = s.time ∧
    (scanOver s).draws = s.draws ∧ (scanOver s).clock = s.clock ∧ (scanOver s).setup = s.setup ∧
    (scanOver s).src = s.src ∧ (scanOver s).gauge = s.gauge ∧ (scanOver s).bright = s.bright ∧
    (scanOver s).drv = s.drv ∧ (scanOver s).motion = s.motion ∧ (scanOver s).routes = s.routes ∧
    (scanOver s).link.up = s.link.up ∧ (scanOver s).link.platformLow = s.link.platformLow ∧
    (scanOver s).link.mask = s.link.mask ∧ (scanOver s).link.arm = s.link.arm ∧
    (scanOver s).link.setupTaken = s.link.setupTaken ∧ (scanOver s).link.lastRefused = s.link.lastRefused ∧
    (scanOver s).link.resetCause = s.link.resetCause ∧ (scanOver s).link.readData = s.link.readData := by
  simp only [scanOver]
  (repeat' split) <;> simp

@[simp] theorem eraseFailed_frame (a b : Nat) (c : List Byte) :
    (eraseFailed a b c s).pending = s.pending ∧ (eraseFailed a b c s).powered = s.powered ∧
    (eraseFailed a b c s).time = s.time ∧ (eraseFailed a b c s).draws = s.draws ∧
    (eraseFailed a b c s).clock = s.clock ∧ (eraseFailed a b c s).setup = s.setup ∧
    (eraseFailed a b c s).src = s.src ∧ (eraseFailed a b c s).gauge = s.gauge ∧
    (eraseFailed a b c s).bright = s.bright ∧ (eraseFailed a b c s).drv = s.drv ∧
    (eraseFailed a b c s).motion = s.motion ∧ (eraseFailed a b c s).routes = s.routes ∧
    (eraseFailed a b c s).link.up = s.link.up ∧ (eraseFailed a b c s).link.platformLow = s.link.platformLow ∧
    (eraseFailed a b c s).link.mask = s.link.mask ∧ (eraseFailed a b c s).link.arm = s.link.arm ∧
    (eraseFailed a b c s).link.setupTaken = s.link.setupTaken ∧
    (eraseFailed a b c s).link.lastRefused = s.link.lastRefused ∧
    (eraseFailed a b c s).link.resetCause = s.link.resetCause ∧
    (eraseFailed a b c s).link.readData = s.link.readData := by
  simp only [eraseFailed]
  (repeat' split) <;> simp

@[simp] theorem eraseDone_frame (c : Option (List Byte)) :
    (eraseDone c s).pending = s.pending ∧ (eraseDone c s).powered = s.powered ∧ (eraseDone c s).time = s.time ∧
    (eraseDone c s).draws = s.draws ∧ (eraseDone c s).clock = s.clock ∧ (eraseDone c s).setup = s.setup ∧
    (eraseDone c s).src = s.src ∧ (eraseDone c s).gauge = s.gauge ∧ (eraseDone c s).bright = s.bright ∧
    (eraseDone c s).drv = s.drv ∧ (eraseDone c s).motion = s.motion ∧ (eraseDone c s).routes = s.routes ∧
    (eraseDone c s).link.up = s.link.up ∧ (eraseDone c s).link.platformLow = s.link.platformLow ∧
    (eraseDone c s).link.mask = s.link.mask ∧ (eraseDone c s).link.arm = s.link.arm ∧
    (eraseDone c s).link.setupTaken = s.link.setupTaken ∧ (eraseDone c s).link.lastRefused = s.link.lastRefused ∧
    (eraseDone c s).link.resetCause = s.link.resetCause ∧ (eraseDone c s).link.readData = s.link.readData := by
  simp only [eraseDone]
  (repeat' split) <;> simp

@[simp] theorem eraseStopped_frame (c : List Byte) :
    (eraseStopped c s).pending = s.pending ∧ (eraseStopped c s).powered = s.powered ∧
    (eraseStopped c s).time = s.time ∧ (eraseStopped c s).draws = s.draws ∧ (eraseStopped c s).clock = s.clock ∧
    (eraseStopped c s).setup = s.setup ∧ (eraseStopped c s).src = s.src ∧ (eraseStopped c s).gauge = s.gauge ∧
    (eraseStopped c s).bright = s.bright ∧ (eraseStopped c s).drv = s.drv ∧
    (eraseStopped c s).motion = s.motion ∧ (eraseStopped c s).routes = s.routes ∧
    (eraseStopped c s).link.up = s.link.up ∧ (eraseStopped c s).link.platformLow = s.link.platformLow ∧
    (eraseStopped c s).link.mask = s.link.mask ∧ (eraseStopped c s).link.arm = s.link.arm ∧
    (eraseStopped c s).link.setupTaken = s.link.setupTaken ∧
    (eraseStopped c s).link.lastRefused = s.link.lastRefused ∧
    (eraseStopped c s).link.resetCause = s.link.resetCause ∧ (eraseStopped c s).link.readData = s.link.readData := by
  simp only [eraseStopped]
  (repeat' split) <;> simp

@[simp] theorem boundaryLowered_frame (a b : Nat) :
    (boundaryLowered a b s).pending = s.pending ∧ (boundaryLowered a b s).powered = s.powered ∧
    (boundaryLowered a b s).time = s.time ∧ (boundaryLowered a b s).draws = s.draws ∧
    (boundaryLowered a b s).clock = s.clock ∧ (boundaryLowered a b s).setup = s.setup ∧
    (boundaryLowered a b s).src = s.src ∧ (boundaryLowered a b s).gauge = s.gauge ∧
    (boundaryLowered a b s).bright = s.bright ∧ (boundaryLowered a b s).drv = s.drv ∧
    (boundaryLowered a b s).motion = s.motion ∧ (boundaryLowered a b s).routes = s.routes ∧
    (boundaryLowered a b s).link.up = s.link.up ∧ (boundaryLowered a b s).link.platformLow = s.link.platformLow ∧
    (boundaryLowered a b s).link.mask = s.link.mask ∧ (boundaryLowered a b s).link.arm = s.link.arm ∧
    (boundaryLowered a b s).link.setupTaken = s.link.setupTaken ∧
    (boundaryLowered a b s).link.lastRefused = s.link.lastRefused ∧
    (boundaryLowered a b s).link.resetCause = s.link.resetCause ∧
    (boundaryLowered a b s).link.readData = s.link.readData := by
  simp only [boundaryLowered]
  (repeat' split) <;> simp

@[simp] theorem stepDone_frame (c : Option (BitVec 55)) :
    (stepDone c s).pending = s.pending ∧ (stepDone c s).powered = s.powered ∧ (stepDone c s).time = s.time ∧
    (stepDone c s).clock = s.clock ∧ (stepDone c s).setup = s.setup ∧ (stepDone c s).src = s.src ∧
    (stepDone c s).gauge = s.gauge ∧ (stepDone c s).bright = s.bright ∧ (stepDone c s).drv = s.drv ∧
    (stepDone c s).motion = s.motion ∧ (stepDone c s).routes = s.routes ∧ (stepDone c s).link.up = s.link.up ∧
    (stepDone c s).link.platformLow = s.link.platformLow ∧ (stepDone c s).link.mask = s.link.mask ∧
    (stepDone c s).link.arm = s.link.arm ∧ (stepDone c s).link.setupTaken = s.link.setupTaken ∧
    (stepDone c s).link.lastRefused = s.link.lastRefused ∧ (stepDone c s).link.resetCause = s.link.resetCause ∧
    (stepDone c s).link.readData = s.link.readData := by
  simp only [stepDone]
  (repeat' split) <;> simp

@[simp] theorem scanFindings_frame :
    (scanFindings s).pending = s.pending ∧ (scanFindings s).powered = s.powered ∧
    (scanFindings s).time = s.time ∧ (scanFindings s).draws = s.draws ∧ (scanFindings s).clock = s.clock ∧
    (scanFindings s).setup = s.setup ∧ (scanFindings s).src = s.src ∧ (scanFindings s).gauge = s.gauge ∧
    (scanFindings s).bright = s.bright ∧ (scanFindings s).drv = s.drv ∧ (scanFindings s).motion = s.motion ∧
    (scanFindings s).req = s.req ∧ (scanFindings s).notices = s.notices ∧ (scanFindings s).routes = s.routes ∧
    (scanFindings s).link = s.link ∧ (scanFindings s).pages = s.pages := by
  simp only [scanFindings]
  (repeat' split) <;> simp

@[simp] theorem scanEnd_frame :
    (scanEnd s).pending = s.pending ∧ (scanEnd s).powered = s.powered ∧ (scanEnd s).time = s.time ∧
    (scanEnd s).draws = s.draws ∧ (scanEnd s).clock = s.clock ∧ (scanEnd s).setup = s.setup ∧
    (scanEnd s).src = s.src ∧ (scanEnd s).gauge = s.gauge ∧ (scanEnd s).bright = s.bright ∧
    (scanEnd s).drv = s.drv ∧ (scanEnd s).motion = s.motion ∧ (scanEnd s).routes = s.routes ∧
    (scanEnd s).link.up = s.link.up ∧ (scanEnd s).link.platformLow = s.link.platformLow ∧
    (scanEnd s).link.mask = s.link.mask ∧ (scanEnd s).link.arm = s.link.arm ∧
    (scanEnd s).link.setupTaken = s.link.setupTaken ∧ (scanEnd s).link.lastRefused = s.link.lastRefused ∧
    (scanEnd s).link.resetCause = s.link.resetCause ∧ (scanEnd s).link.readData = s.link.readData := by
  simp only [scanEnd]
  (repeat' split) <;> simp

@[simp] theorem historyReset_frame :
    (historyReset s).pending = s.pending ∧ (historyReset s).powered = s.powered ∧
    (historyReset s).time = s.time ∧ (historyReset s).draws = s.draws ∧ (historyReset s).clock = s.clock ∧
    (historyReset s).setup = s.setup ∧ (historyReset s).src = s.src ∧ (historyReset s).gauge = s.gauge ∧
    (historyReset s).bright = s.bright ∧ (historyReset s).drv = s.drv ∧ (historyReset s).motion = s.motion ∧
    (historyReset s).req = s.req ∧ (historyReset s).notices = s.notices ∧ (historyReset s).routes = s.routes ∧
    (historyReset s).link = s.link ∧ (historyReset s).pages = s.pages := by
  simp only [historyReset]
  (repeat' split) <;> simp

end Sys2Proof.Machine
end

