-- ==== Sys2Proof/Laws/FrameSource.lean ====
section
/-! SUPPORT. What each operation of the Charge Gauge and the Source Controller leaves unchanged: one lemma each. -/

namespace Sys2Proof.Machine

variable (s : State)

@[simp] theorem countBay_frame (b : BayId) :
    (countBay b s).pending = s.pending ∧ (countBay b s).powered = s.powered ∧ (countBay b s).time = s.time ∧
    (countBay b s).draws = s.draws ∧ (countBay b s).clock = s.clock ∧ (countBay b s).setup = s.setup ∧
    (countBay b s).src = s.src ∧ (countBay b s).bright = s.bright ∧ (countBay b s).drv = s.drv ∧
    (countBay b s).motion = s.motion ∧ (countBay b s).hist = s.hist ∧ (countBay b s).req = s.req ∧
    (countBay b s).notices = s.notices ∧ (countBay b s).routes = s.routes ∧ (countBay b s).link = s.link ∧
    (countBay b s).pages = s.pages := by
  simp only [countBay]
  (repeat' split) <;> simp

@[simp] theorem checkLow_frame (b : BayId) :
    (checkLow b s).pending = s.pending ∧ (checkLow b s).powered = s.powered ∧ (checkLow b s).time = s.time ∧
    (checkLow b s).draws = s.draws ∧ (checkLow b s).clock = s.clock ∧ (checkLow b s).setup = s.setup ∧
    (checkLow b s).src = s.src ∧ (checkLow b s).bright = s.bright ∧ (checkLow b s).drv = s.drv ∧
    (checkLow b s).motion = s.motion ∧ (checkLow b s).hist = s.hist ∧ (checkLow b s).req = s.req ∧
    (checkLow b s).routes = s.routes ∧ (checkLow b s).pages = s.pages ∧ (checkLow b s).link.up = s.link.up ∧
    (checkLow b s).link.platformLow = s.link.platformLow ∧ (checkLow b s).link.memory = s.link.memory ∧
    (checkLow b s).link.mask = s.link.mask ∧ (checkLow b s).link.arm = s.link.arm ∧
    (checkLow b s).link.setupTaken = s.link.setupTaken ∧ (checkLow b s).link.lastRefused = s.link.lastRefused ∧
    (checkLow b s).link.resetCause = s.link.resetCause ∧ (checkLow b s).link.readData = s.link.readData := by
  simp only [checkLow]
  (repeat' split) <;> simp

@[simp] theorem makeRecord_frame (b : BayId) (v : Nat) :
    (makeRecord b v s).pending = s.pending ∧ (makeRecord b v s).powered = s.powered ∧
    (makeRecord b v s).time = s.time ∧ (makeRecord b v s).draws = s.draws ∧ (makeRecord b v s).clock = s.clock ∧
    (makeRecord b v s).setup = s.setup ∧ (makeRecord b v s).src = s.src ∧ (makeRecord b v s).bright = s.bright ∧
    (makeRecord b v s).drv = s.drv ∧ (makeRecord b v s).motion = s.motion ∧ (makeRecord b v s).hist = s.hist ∧
    (makeRecord b v s).req = s.req ∧ (makeRecord b v s).routes = s.routes ∧
    (makeRecord b v s).link.up = s.link.up ∧ (makeRecord b v s).link.platformLow = s.link.platformLow ∧
    (makeRecord b v s).link.memory = s.link.memory ∧ (makeRecord b v s).link.mask = s.link.mask ∧
    (makeRecord b v s).link.arm = s.link.arm ∧ (makeRecord b v s).link.setupTaken = s.link.setupTaken ∧
    (makeRecord b v s).link.lastRefused = s.link.lastRefused ∧
    (makeRecord b v s).link.resetCause = s.link.resetCause ∧ (makeRecord b v s).link.readData = s.link.readData := by
  simp only [makeRecord]
  (repeat' split) <;> simp

@[simp] theorem forgetRecord_frame (b : BayId) :
    (forgetRecord b s).pending = s.pending ∧ (forgetRecord b s).powered = s.powered ∧
    (forgetRecord b s).time = s.time ∧ (forgetRecord b s).draws = s.draws ∧ (forgetRecord b s).clock = s.clock ∧
    (forgetRecord b s).setup = s.setup ∧ (forgetRecord b s).src = s.src ∧ (forgetRecord b s).bright = s.bright ∧
    (forgetRecord b s).drv = s.drv ∧ (forgetRecord b s).motion = s.motion ∧ (forgetRecord b s).hist = s.hist ∧
    (forgetRecord b s).req = s.req ∧ (forgetRecord b s).notices = s.notices ∧
    (forgetRecord b s).routes = s.routes ∧ (forgetRecord b s).link = s.link := by
  simp only [forgetRecord]
  (repeat' split) <;> simp

@[simp] theorem forgetPack_frame (b : BayId) :
    (forgetPack b s).pending = s.pending ∧ (forgetPack b s).powered = s.powered ∧
    (forgetPack b s).time = s.time ∧ (forgetPack b s).draws = s.draws ∧ (forgetPack b s).clock = s.clock ∧
    (forgetPack b s).setup = s.setup ∧ (forgetPack b s).src = s.src ∧ (forgetPack b s).bright = s.bright ∧
    (forgetPack b s).drv = s.drv ∧ (forgetPack b s).motion = s.motion ∧ (forgetPack b s).hist = s.hist ∧
    (forgetPack b s).req = s.req ∧ (forgetPack b s).notices = s.notices ∧ (forgetPack b s).routes = s.routes ∧
    (forgetPack b s).link = s.link := by
  simp only [forgetPack]
  (repeat' split) <;> simp

@[simp] theorem keepCapacity_frame (b : BayId) :
    (keepCapacity b s).pending = s.pending ∧ (keepCapacity b s).powered = s.powered ∧
    (keepCapacity b s).time = s.time ∧ (keepCapacity b s).draws = s.draws ∧ (keepCapacity b s).clock = s.clock ∧
    (keepCapacity b s).setup = s.setup ∧ (keepCapacity b s).src = s.src ∧ (keepCapacity b s).bright = s.bright ∧
    (keepCapacity b s).drv = s.drv ∧ (keepCapacity b s).motion = s.motion ∧ (keepCapacity b s).hist = s.hist ∧
    (keepCapacity b s).req = s.req ∧ (keepCapacity b s).notices = s.notices ∧
    (keepCapacity b s).routes = s.routes ∧ (keepCapacity b s).link = s.link := by
  simp only [keepCapacity]
  (repeat' split) <;> simp

@[simp] theorem gaugeTrip_frame (b : BayId) :
    (gaugeTrip b s).pending = s.pending ∧ (gaugeTrip b s).powered = s.powered ∧ (gaugeTrip b s).time = s.time ∧
    (gaugeTrip b s).draws = s.draws ∧ (gaugeTrip b s).clock = s.clock ∧ (gaugeTrip b s).setup = s.setup ∧
    (gaugeTrip b s).src = s.src ∧ (gaugeTrip b s).bright = s.bright ∧ (gaugeTrip b s).drv = s.drv ∧
    (gaugeTrip b s).motion = s.motion ∧ (gaugeTrip b s).hist = s.hist ∧ (gaugeTrip b s).req = s.req ∧
    (gaugeTrip b s).routes = s.routes ∧ (gaugeTrip b s).pages = s.pages ∧ (gaugeTrip b s).link.up = s.link.up ∧
    (gaugeTrip b s).link.platformLow = s.link.platformLow ∧ (gaugeTrip b s).link.memory = s.link.memory ∧
    (gaugeTrip b s).link.mask = s.link.mask ∧ (gaugeTrip b s).link.arm = s.link.arm ∧
    (gaugeTrip b s).link.setupTaken = s.link.setupTaken ∧ (gaugeTrip b s).link.lastRefused = s.link.lastRefused ∧
    (gaugeTrip b s).link.resetCause = s.link.resetCause ∧ (gaugeTrip b s).link.readData = s.link.readData := by
  simp only [gaugeTrip]
  (repeat' split) <;> simp

@[simp] theorem emptyWindow_frame :
    (emptyWindow s).pending = s.pending ∧ (emptyWindow s).powered = s.powered ∧ (emptyWindow s).time = s.time ∧
    (emptyWindow s).draws = s.draws ∧ (emptyWindow s).clock = s.clock ∧ (emptyWindow s).setup = s.setup ∧
    (emptyWindow s).src = s.src ∧ (emptyWindow s).bright = s.bright ∧ (emptyWindow s).drv = s.drv ∧
    (emptyWindow s).motion = s.motion ∧ (emptyWindow s).hist = s.hist ∧ (emptyWindow s).req = s.req ∧
    (emptyWindow s).notices = s.notices ∧ (emptyWindow s).routes = s.routes ∧ (emptyWindow s).link = s.link ∧
    (emptyWindow s).pages = s.pages := by
  simp only [emptyWindow]
  (repeat' split) <;> simp

@[simp] theorem closeSecond_frame :
    (closeSecond s).pending = s.pending ∧ (closeSecond s).powered = s.powered ∧ (closeSecond s).time = s.time ∧
    (closeSecond s).draws = s.draws ∧ (closeSecond s).clock = s.clock ∧ (closeSecond s).setup = s.setup ∧
    (closeSecond s).src = s.src ∧ (closeSecond s).bright = s.bright ∧ (closeSecond s).drv = s.drv ∧
    (closeSecond s).motion = s.motion ∧ (closeSecond s).hist = s.hist ∧ (closeSecond s).req = s.req ∧
    (closeSecond s).notices = s.notices ∧ (closeSecond s).routes = s.routes ∧ (closeSecond s).link = s.link ∧
    (closeSecond s).pages = s.pages := by
  simp only [closeSecond]
  (repeat' split) <;> simp

@[simp] theorem gatherSample_frame :
    (gatherSample s).pending = s.pending ∧ (gatherSample s).powered = s.powered ∧
    (gatherSample s).time = s.time ∧ (gatherSample s).draws = s.draws ∧ (gatherSample s).clock = s.clock ∧
    (gatherSample s).setup = s.setup ∧ (gatherSample s).src = s.src ∧ (gatherSample s).bright = s.bright ∧
    (gatherSample s).drv = s.drv ∧ (gatherSample s).motion = s.motion ∧ (gatherSample s).hist = s.hist ∧
    (gatherSample s).req = s.req ∧ (gatherSample s).notices = s.notices ∧ (gatherSample s).routes = s.routes ∧
    (gatherSample s).link = s.link ∧ (gatherSample s).pages = s.pages := by
  simp only [gatherSample]
  (repeat' split) <;> simp

@[simp] theorem enterExhausted_frame (c : HoldupCause) (p : PowerState) :
    (enterExhausted c p s).pending = s.pending ∧ (enterExhausted c p s).powered = s.powered ∧
    (enterExhausted c p s).time = s.time ∧ (enterExhausted c p s).draws = s.draws ∧
    (enterExhausted c p s).clock = s.clock ∧ (enterExhausted c p s).setup = s.setup ∧
    (enterExhausted c p s).gauge = s.gauge ∧ (enterExhausted c p s).bright = s.bright ∧
    (enterExhausted c p s).drv = s.drv ∧ (enterExhausted c p s).motion = s.motion ∧
    (enterExhausted c p s).hist = s.hist ∧ (enterExhausted c p s).req = s.req ∧
    (enterExhausted c p s).notices = s.notices ∧ (enterExhausted c p s).routes = s.routes ∧
    (enterExhausted c p s).link = s.link ∧ (enterExhausted c p s).pages = s.pages := by
  simp only [enterExhausted]
  (repeat' split) <;> simp

@[simp] theorem updatePower_frame (c : HoldupCause) (x : Bool) :
    (updatePower c x s).pending = s.pending ∧ (updatePower c x s).powered = s.powered ∧
    (updatePower c x s).time = s.time ∧ (updatePower c x s).draws = s.draws ∧
    (updatePower c x s).clock = s.clock ∧ (updatePower c x s).setup = s.setup ∧
    (updatePower c x s).gauge = s.gauge ∧ (updatePower c x s).motion = s.motion ∧
    (updatePower c x s).hist = s.hist ∧ (updatePower c x s).req = s.req ∧ (updatePower c x s).routes = s.routes ∧
    (updatePower c x s).link.up = s.link.up ∧ (updatePower c x s).link.platformLow = s.link.platformLow ∧
    (updatePower c x s).link.memory = s.link.memory ∧ (updatePower c x s).link.mask = s.link.mask ∧
    (updatePower c x s).link.arm = s.link.arm ∧ (updatePower c x s).link.setupTaken = s.link.setupTaken ∧
    (updatePower c x s).link.lastRefused = s.link.lastRefused ∧
    (updatePower c x s).link.resetCause = s.link.resetCause ∧ (updatePower c x s).link.readData = s.link.readData := by
  simp only [updatePower]
  (repeat' split) <;> simp

@[simp] theorem evalBrChg_frame :
    (evalBrChg s).pending = s.pending ∧ (evalBrChg s).powered = s.powered ∧ (evalBrChg s).time = s.time ∧
    (evalBrChg s).draws = s.draws ∧ (evalBrChg s).clock = s.clock ∧ (evalBrChg s).setup = s.setup ∧
    (evalBrChg s).gauge = s.gauge ∧ (evalBrChg s).bright = s.bright ∧ (evalBrChg s).drv = s.drv ∧
    (evalBrChg s).motion = s.motion ∧ (evalBrChg s).hist = s.hist ∧ (evalBrChg s).req = s.req ∧
    (evalBrChg s).notices = s.notices ∧ (evalBrChg s).routes = s.routes ∧ (evalBrChg s).link = s.link ∧
    (evalBrChg s).pages = s.pages := by
  simp only [evalBrChg]
  (repeat' split) <;> simp

@[simp] theorem setCharge_frame (b : BayId) (x : Bool) :
    (setCharge b x s).pending = s.pending ∧ (setCharge b x s).powered = s.powered ∧
    (setCharge b x s).time = s.time ∧ (setCharge b x s).draws = s.draws ∧ (setCharge b x s).clock = s.clock ∧
    (setCharge b x s).setup = s.setup ∧ (setCharge b x s).gauge = s.gauge ∧ (setCharge b x s).bright = s.bright ∧
    (setCharge b x s).drv = s.drv ∧ (setCharge b x s).motion = s.motion ∧ (setCharge b x s).hist = s.hist ∧
    (setCharge b x s).req = s.req ∧ (setCharge b x s).notices = s.notices ∧ (setCharge b x s).routes = s.routes ∧
    (setCharge b x s).link = s.link := by
  simp only [setCharge]
  (repeat' split) <;> simp

@[simp] theorem selectCharge_frame :
    (selectCharge s).pending = s.pending ∧ (selectCharge s).powered = s.powered ∧
    (selectCharge s).time = s.time ∧ (selectCharge s).draws = s.draws ∧ (selectCharge s).clock = s.clock ∧
    (selectCharge s).setup = s.setup ∧ (selectCharge s).gauge = s.gauge ∧ (selectCharge s).bright = s.bright ∧
    (selectCharge s).drv = s.drv ∧ (selectCharge s).motion = s.motion ∧ (selectCharge s).hist = s.hist ∧
    (selectCharge s).req = s.req ∧ (selectCharge s).notices = s.notices ∧ (selectCharge s).routes = s.routes ∧
    (selectCharge s).link = s.link := by
  simp only [selectCharge]
  (repeat' split) <;> simp

@[simp] theorem setState_frame (b : BayId) (x : BayState) :
    (setState b x s).pending = s.pending ∧ (setState b x s).powered = s.powered ∧
    (setState b x s).time = s.time ∧ (setState b x s).draws = s.draws ∧ (setState b x s).clock = s.clock ∧
    (setState b x s).setup = s.setup ∧ (setState b x s).gauge = s.gauge ∧ (setState b x s).bright = s.bright ∧
    (setState b x s).drv = s.drv ∧ (setState b x s).motion = s.motion ∧ (setState b x s).hist = s.hist ∧
    (setState b x s).req = s.req ∧ (setState b x s).notices = s.notices ∧ (setState b x s).routes = s.routes ∧
    (setState b x s).link = s.link := by
  simp only [setState]
  (repeat' split) <;> simp

@[simp] theorem enterReady_frame (b : BayId) :
    (enterReady b s).pending = s.pending ∧ (enterReady b s).powered = s.powered ∧
    (enterReady b s).time = s.time ∧ (enterReady b s).draws = s.draws ∧ (enterReady b s).clock = s.clock ∧
    (enterReady b s).setup = s.setup ∧ (enterReady b s).gauge = s.gauge ∧ (enterReady b s).bright = s.bright ∧
    (enterReady b s).drv = s.drv ∧ (enterReady b s).motion = s.motion ∧ (enterReady b s).hist = s.hist ∧
    (enterReady b s).req = s.req ∧ (enterReady b s).notices = s.notices ∧ (enterReady b s).routes = s.routes ∧
    (enterReady b s).link = s.link := by
  simp only [enterReady]
  (repeat' split) <;> simp

@[simp] theorem enterReleasing_frame (b : BayId) (x : BayState) :
    (enterReleasing b x s).pending = s.pending ∧ (enterReleasing b x s).powered = s.powered ∧
    (enterReleasing b x s).time = s.time ∧ (enterReleasing b x s).draws = s.draws ∧
    (enterReleasing b x s).clock = s.clock ∧ (enterReleasing b x s).setup = s.setup ∧
    (enterReleasing b x s).gauge = s.gauge ∧ (enterReleasing b x s).bright = s.bright ∧
    (enterReleasing b x s).drv = s.drv ∧ (enterReleasing b x s).motion = s.motion ∧
    (enterReleasing b x s).hist = s.hist ∧ (enterReleasing b x s).req = s.req ∧
    (enterReleasing b x s).notices = s.notices ∧ (enterReleasing b x s).routes = s.routes ∧
    (enterReleasing b x s).link = s.link := by
  simp only [enterReleasing]
  (repeat' split) <;> simp

@[simp] theorem startQualifying_frame (b : BayId) :
    (startQualifying b s).pending = s.pending ∧ (startQualifying b s).powered = s.powered ∧
    (startQualifying b s).time = s.time ∧ (startQualifying b s).draws = s.draws ∧
    (startQualifying b s).clock = s.clock ∧ (startQualifying b s).setup = s.setup ∧
    (startQualifying b s).gauge = s.gauge ∧ (startQualifying b s).bright = s.bright ∧
    (startQualifying b s).drv = s.drv ∧ (startQualifying b s).motion = s.motion ∧
    (startQualifying b s).hist = s.hist ∧ (startQualifying b s).req = s.req ∧
    (startQualifying b s).notices = s.notices ∧ (startQualifying b s).routes = s.routes ∧
    (startQualifying b s).link = s.link := by
  simp only [startQualifying]
  (repeat' split) <;> simp

@[simp] theorem leaveSet_frame :
    (leaveSet s).pending = s.pending ∧ (leaveSet s).powered = s.powered ∧ (leaveSet s).time = s.time ∧
    (leaveSet s).draws = s.draws ∧ (leaveSet s).clock = s.clock ∧ (leaveSet s).setup = s.setup ∧
    (leaveSet s).gauge = s.gauge ∧ (leaveSet s).bright = s.bright ∧ (leaveSet s).drv = s.drv ∧
    (leaveSet s).motion = s.motion ∧ (leaveSet s).hist = s.hist ∧ (leaveSet s).req = s.req ∧
    (leaveSet s).notices = s.notices ∧ (leaveSet s).routes = s.routes ∧ (leaveSet s).link = s.link := by
  simp only [leaveSet]
  (repeat' split) <;> simp

@[simp] theorem joinSet_frame (f : Feed) :
    (joinSet f s).pending = s.pending ∧ (joinSet f s).powered = s.powered ∧ (joinSet f s).time = s.time ∧
    (joinSet f s).draws = s.draws ∧ (joinSet f s).clock = s.clock ∧ (joinSet f s).setup = s.setup ∧
    (joinSet f s).gauge = s.gauge ∧ (joinSet f s).bright = s.bright ∧ (joinSet f s).drv = s.drv ∧
    (joinSet f s).motion = s.motion ∧ (joinSet f s).hist = s.hist ∧ (joinSet f s).req = s.req ∧
    (joinSet f s).notices = s.notices ∧ (joinSet f s).routes = s.routes ∧ (joinSet f s).link = s.link ∧
    (joinSet f s).pages = s.pages := by cases f <;> simp [joinSet, joinSet.joinBay]

@[simp] theorem updateRide_frame (p : PowerState) :
    (updateRide p s).pending = s.pending ∧ (updateRide p s).powered = s.powered ∧
    (updateRide p s).time = s.time ∧ (updateRide p s).draws = s.draws ∧ (updateRide p s).clock = s.clock ∧
    (updateRide p s).setup = s.setup ∧ (updateRide p s).gauge = s.gauge ∧ (updateRide p s).bright = s.bright ∧
    (updateRide p s).drv = s.drv ∧ (updateRide p s).motion = s.motion ∧ (updateRide p s).hist = s.hist ∧
    (updateRide p s).req = s.req ∧ (updateRide p s).routes = s.routes ∧ (updateRide p s).pages = s.pages ∧
    (updateRide p s).link.up = s.link.up ∧ (updateRide p s).link.platformLow = s.link.platformLow ∧
    (updateRide p s).link.memory = s.link.memory ∧ (updateRide p s).link.mask = s.link.mask ∧
    (updateRide p s).link.arm = s.link.arm ∧ (updateRide p s).link.setupTaken = s.link.setupTaken ∧
    (updateRide p s).link.lastRefused = s.link.lastRefused ∧
    (updateRide p s).link.resetCause = s.link.resetCause ∧ (updateRide p s).link.readData = s.link.readData := by
  simp only [updateRide]
  (repeat' split) <;> simp

@[simp] theorem switchOver_frame (f : Feed) :
    (switchOver f s).pending = s.pending ∧ (switchOver f s).powered = s.powered ∧
    (switchOver f s).time = s.time ∧ (switchOver f s).draws = s.draws ∧ (switchOver f s).clock = s.clock ∧
    (switchOver f s).setup = s.setup ∧ (switchOver f s).motion = s.motion ∧ (switchOver f s).hist = s.hist ∧
    (switchOver f s).req = s.req ∧ (switchOver f s).routes = s.routes ∧ (switchOver f s).link.up = s.link.up ∧
    (switchOver f s).link.platformLow = s.link.platformLow ∧ (switchOver f s).link.memory = s.link.memory ∧
    (switchOver f s).link.mask = s.link.mask ∧ (switchOver f s).link.arm = s.link.arm ∧
    (switchOver f s).link.setupTaken = s.link.setupTaken ∧
    (switchOver f s).link.lastRefused = s.link.lastRefused ∧
    (switchOver f s).link.resetCause = s.link.resetCause ∧ (switchOver f s).link.readData = s.link.readData := by
  simp only [switchOver]
  (repeat' split) <;> simp

@[simp] theorem reengage_frame (b : BayId) :
    (reengage b s).pending = s.pending ∧ (reengage b s).powered = s.powered ∧ (reengage b s).time = s.time ∧
    (reengage b s).draws = s.draws ∧ (reengage b s).clock = s.clock ∧ (reengage b s).setup = s.setup ∧
    (reengage b s).motion = s.motion ∧ (reengage b s).hist = s.hist ∧ (reengage b s).req = s.req ∧
    (reengage b s).routes = s.routes ∧ (reengage b s).link.up = s.link.up ∧
    (reengage b s).link.platformLow = s.link.platformLow ∧ (reengage b s).link.memory = s.link.memory ∧
    (reengage b s).link.mask = s.link.mask ∧ (reengage b s).link.arm = s.link.arm ∧
    (reengage b s).link.setupTaken = s.link.setupTaken ∧ (reengage b s).link.lastRefused = s.link.lastRefused ∧
    (reengage b s).link.resetCause = s.link.resetCause ∧ (reengage b s).link.readData = s.link.readData := by
  simp only [reengage]
  (repeat' split) <;> simp

@[simp] theorem noSource_frame :
    (noSource s).pending = s.pending ∧ (noSource s).powered = s.powered ∧ (noSource s).time = s.time ∧
    (noSource s).draws = s.draws ∧ (noSource s).clock = s.clock ∧ (noSource s).setup = s.setup ∧
    (noSource s).motion = s.motion ∧ (noSource s).hist = s.hist ∧ (noSource s).req = s.req ∧
    (noSource s).routes = s.routes ∧ (noSource s).link.up = s.link.up ∧
    (noSource s).link.platformLow = s.link.platformLow ∧ (noSource s).link.memory = s.link.memory ∧
    (noSource s).link.mask = s.link.mask ∧ (noSource s).link.arm = s.link.arm ∧
    (noSource s).link.setupTaken = s.link.setupTaken ∧ (noSource s).link.lastRefused = s.link.lastRefused ∧
    (noSource s).link.resetCause = s.link.resetCause ∧ (noSource s).link.readData = s.link.readData := by
  simp only [noSource]
  (repeat' split) <;> simp

@[simp] theorem runSelection_frame :
    (runSelection s).pending = s.pending ∧ (runSelection s).powered = s.powered ∧
    (runSelection s).time = s.time ∧ (runSelection s).draws = s.draws ∧ (runSelection s).clock = s.clock ∧
    (runSelection s).setup = s.setup ∧ (runSelection s).motion = s.motion ∧ (runSelection s).hist = s.hist ∧
    (runSelection s).req = s.req ∧ (runSelection s).routes = s.routes ∧ (runSelection s).link.up = s.link.up ∧
    (runSelection s).link.platformLow = s.link.platformLow ∧ (runSelection s).link.memory = s.link.memory ∧
    (runSelection s).link.mask = s.link.mask ∧ (runSelection s).link.arm = s.link.arm ∧
    (runSelection s).link.setupTaken = s.link.setupTaken ∧
    (runSelection s).link.lastRefused = s.link.lastRefused ∧
    (runSelection s).link.resetCause = s.link.resetCause ∧ (runSelection s).link.readData = s.link.readData := by
  simp only [runSelection]
  (repeat' split) <;> simp

@[simp] theorem socEvent_frame (b : BayId) :
    (socEvent b s).pending = s.pending ∧ (socEvent b s).powered = s.powered ∧ (socEvent b s).time = s.time ∧
    (socEvent b s).draws = s.draws ∧ (socEvent b s).clock = s.clock ∧ (socEvent b s).setup = s.setup ∧
    (socEvent b s).motion = s.motion ∧ (socEvent b s).hist = s.hist ∧ (socEvent b s).req = s.req ∧
    (socEvent b s).routes = s.routes ∧ (socEvent b s).link.up = s.link.up ∧
    (socEvent b s).link.platformLow = s.link.platformLow ∧ (socEvent b s).link.memory = s.link.memory ∧
    (socEvent b s).link.mask = s.link.mask ∧ (socEvent b s).link.arm = s.link.arm ∧
    (socEvent b s).link.setupTaken = s.link.setupTaken ∧ (socEvent b s).link.lastRefused = s.link.lastRefused ∧
    (socEvent b s).link.resetCause = s.link.resetCause ∧ (socEvent b s).link.readData = s.link.readData := by
  simp only [socEvent]
  (repeat' split) <;> simp

@[simp] theorem socChanged_frame (b : BayId) (n : Nat) :
    (socChanged b n s).pending = s.pending ∧ (socChanged b n s).powered = s.powered ∧
    (socChanged b n s).time = s.time ∧ (socChanged b n s).draws = s.draws ∧ (socChanged b n s).clock = s.clock ∧
    (socChanged b n s).setup = s.setup ∧ (socChanged b n s).motion = s.motion ∧
    (socChanged b n s).hist = s.hist ∧ (socChanged b n s).req = s.req ∧ (socChanged b n s).routes = s.routes ∧
    (socChanged b n s).link.up = s.link.up ∧ (socChanged b n s).link.platformLow = s.link.platformLow ∧
    (socChanged b n s).link.memory = s.link.memory ∧ (socChanged b n s).link.mask = s.link.mask ∧
    (socChanged b n s).link.arm = s.link.arm ∧ (socChanged b n s).link.setupTaken = s.link.setupTaken ∧
    (socChanged b n s).link.lastRefused = s.link.lastRefused ∧
    (socChanged b n s).link.resetCause = s.link.resetCause ∧ (socChanged b n s).link.readData = s.link.readData := by
  simp only [socChanged]
  (repeat' split) <;> simp

@[simp] theorem unplannedRelease_frame (b : BayId) :
    (unplannedRelease b s).pending = s.pending ∧ (unplannedRelease b s).powered = s.powered ∧
    (unplannedRelease b s).time = s.time ∧ (unplannedRelease b s).draws = s.draws ∧
    (unplannedRelease b s).clock = s.clock ∧ (unplannedRelease b s).setup = s.setup ∧
    (unplannedRelease b s).motion = s.motion ∧ (unplannedRelease b s).hist = s.hist ∧
    (unplannedRelease b s).req = s.req ∧ (unplannedRelease b s).routes = s.routes ∧
    (unplannedRelease b s).link.up = s.link.up ∧ (unplannedRelease b s).link.platformLow = s.link.platformLow ∧
    (unplannedRelease b s).link.memory = s.link.memory ∧ (unplannedRelease b s).link.mask = s.link.mask ∧
    (unplannedRelease b s).link.arm = s.link.arm ∧ (unplannedRelease b s).link.setupTaken = s.link.setupTaken ∧
    (unplannedRelease b s).link.lastRefused = s.link.lastRefused ∧
    (unplannedRelease b s).link.resetCause = s.link.resetCause ∧
    (unplannedRelease b s).link.readData = s.link.readData := by
  simp only [unplannedRelease]
  (repeat' split) <;> simp

@[simp] theorem rideEnds_frame (c : HoldupCause) :
    (rideEnds c s).pending = s.pending ∧ (rideEnds c s).powered = s.powered ∧ (rideEnds c s).time = s.time ∧
    (rideEnds c s).draws = s.draws ∧ (rideEnds c s).clock = s.clock ∧ (rideEnds c s).setup = s.setup ∧
    (rideEnds c s).motion = s.motion ∧ (rideEnds c s).hist = s.hist ∧ (rideEnds c s).req = s.req ∧
    (rideEnds c s).routes = s.routes ∧ (rideEnds c s).link.up = s.link.up ∧
    (rideEnds c s).link.platformLow = s.link.platformLow ∧ (rideEnds c s).link.memory = s.link.memory ∧
    (rideEnds c s).link.mask = s.link.mask ∧ (rideEnds c s).link.arm = s.link.arm ∧
    (rideEnds c s).link.setupTaken = s.link.setupTaken ∧ (rideEnds c s).link.lastRefused = s.link.lastRefused ∧
    (rideEnds c s).link.resetCause = s.link.resetCause ∧ (rideEnds c s).link.readData = s.link.readData := by
  simp only [rideEnds]
  (repeat' split) <;> simp

@[simp] theorem raiseBridgeLow_frame (x y : Bool) :
    (raiseBridgeLow x y s).pending = s.pending ∧ (raiseBridgeLow x y s).powered = s.powered ∧
    (raiseBridgeLow x y s).time = s.time ∧ (raiseBridgeLow x y s).draws = s.draws ∧
    (raiseBridgeLow x y s).clock = s.clock ∧ (raiseBridgeLow x y s).setup = s.setup ∧
    (raiseBridgeLow x y s).src = s.src ∧ (raiseBridgeLow x y s).gauge = s.gauge ∧
    (raiseBridgeLow x y s).bright = s.bright ∧ (raiseBridgeLow x y s).drv = s.drv ∧
    (raiseBridgeLow x y s).motion = s.motion ∧ (raiseBridgeLow x y s).hist = s.hist ∧
    (raiseBridgeLow x y s).req = s.req ∧ (raiseBridgeLow x y s).routes = s.routes ∧
    (raiseBridgeLow x y s).pages = s.pages ∧ (raiseBridgeLow x y s).link.up = s.link.up ∧
    (raiseBridgeLow x y s).link.platformLow = s.link.platformLow ∧
    (raiseBridgeLow x y s).link.memory = s.link.memory ∧ (raiseBridgeLow x y s).link.mask = s.link.mask ∧
    (raiseBridgeLow x y s).link.arm = s.link.arm ∧ (raiseBridgeLow x y s).link.setupTaken = s.link.setupTaken ∧
    (raiseBridgeLow x y s).link.lastRefused = s.link.lastRefused ∧
    (raiseBridgeLow x y s).link.resetCause = s.link.resetCause ∧
    (raiseBridgeLow x y s).link.readData = s.link.readData := by
  simp only [raiseBridgeLow]
  (repeat' split) <;> simp

@[simp] theorem enterPrepared_frame (b : BayId) :
    (enterPrepared b s).pending = s.pending ∧ (enterPrepared b s).powered = s.powered ∧
    (enterPrepared b s).time = s.time ∧ (enterPrepared b s).draws = s.draws ∧
    (enterPrepared b s).clock = s.clock ∧ (enterPrepared b s).setup = s.setup ∧
    (enterPrepared b s).motion = s.motion ∧ (enterPrepared b s).hist = s.hist ∧
    (enterPrepared b s).routes = s.routes ∧ (enterPrepared b s).link.up = s.link.up ∧
    (enterPrepared b s).link.platformLow = s.link.platformLow ∧ (enterPrepared b s).link.mask = s.link.mask ∧
    (enterPrepared b s).link.arm = s.link.arm ∧ (enterPrepared b s).link.setupTaken = s.link.setupTaken ∧
    (enterPrepared b s).link.lastRefused = s.link.lastRefused ∧
    (enterPrepared b s).link.resetCause = s.link.resetCause ∧ (enterPrepared b s).link.readData = s.link.readData := by
  simp only [enterPrepared]
  (repeat' split) <;> simp

end Sys2Proof.Machine
end

