-- ==== Sys2Proof/Laws/FrameBays.lean ====
section
/-! SUPPORT. What each operation of the life of a bay, the shock hold and the power round leaves unchanged: one lemma each. -/

namespace Sys2Proof.Machine

variable (s : State)

@[simp] theorem qualified_frame (b : BayId) :
    (qualified b s).pending = s.pending ∧ (qualified b s).powered = s.powered ∧ (qualified b s).time = s.time ∧
    (qualified b s).draws = s.draws ∧ (qualified b s).clock = s.clock ∧ (qualified b s).setup = s.setup ∧
    (qualified b s).motion = s.motion ∧ (qualified b s).hist = s.hist ∧ (qualified b s).req = s.req ∧
    (qualified b s).routes = s.routes ∧ (qualified b s).link.up = s.link.up ∧
    (qualified b s).link.platformLow = s.link.platformLow ∧ (qualified b s).link.memory = s.link.memory ∧
    (qualified b s).link.mask = s.link.mask ∧ (qualified b s).link.arm = s.link.arm ∧
    (qualified b s).link.setupTaken = s.link.setupTaken ∧ (qualified b s).link.lastRefused = s.link.lastRefused ∧
    (qualified b s).link.resetCause = s.link.resetCause ∧ (qualified b s).link.readData = s.link.readData := by
  simp only [qualified]
  (repeat' split) <;> simp

@[simp] theorem failedQualification_frame (b : BayId) :
    (failedQualification b s).pending = s.pending ∧ (failedQualification b s).powered = s.powered ∧
    (failedQualification b s).time = s.time ∧ (failedQualification b s).draws = s.draws ∧
    (failedQualification b s).clock = s.clock ∧ (failedQualification b s).setup = s.setup ∧
    (failedQualification b s).motion = s.motion ∧ (failedQualification b s).hist = s.hist ∧
    (failedQualification b s).req = s.req ∧ (failedQualification b s).routes = s.routes ∧
    (failedQualification b s).link.up = s.link.up ∧
    (failedQualification b s).link.platformLow = s.link.platformLow ∧
    (failedQualification b s).link.memory = s.link.memory ∧ (failedQualification b s).link.mask = s.link.mask ∧
    (failedQualification b s).link.arm = s.link.arm ∧
    (failedQualification b s).link.setupTaken = s.link.setupTaken ∧
    (failedQualification b s).link.lastRefused = s.link.lastRefused ∧
    (failedQualification b s).link.resetCause = s.link.resetCause ∧
    (failedQualification b s).link.readData = s.link.readData := by
  simp only [failedQualification]
  (repeat' split) <;> simp

@[simp] theorem qualificationEnd_frame (b : BayId) :
    (qualificationEnd b s).pending = s.pending ∧ (qualificationEnd b s).powered = s.powered ∧
    (qualificationEnd b s).time = s.time ∧ (qualificationEnd b s).draws = s.draws ∧
    (qualificationEnd b s).clock = s.clock ∧ (qualificationEnd b s).setup = s.setup ∧
    (qualificationEnd b s).motion = s.motion ∧ (qualificationEnd b s).hist = s.hist ∧
    (qualificationEnd b s).req = s.req ∧ (qualificationEnd b s).routes = s.routes ∧
    (qualificationEnd b s).link.up = s.link.up ∧ (qualificationEnd b s).link.platformLow = s.link.platformLow ∧
    (qualificationEnd b s).link.memory = s.link.memory ∧ (qualificationEnd b s).link.mask = s.link.mask ∧
    (qualificationEnd b s).link.arm = s.link.arm ∧ (qualificationEnd b s).link.setupTaken = s.link.setupTaken ∧
    (qualificationEnd b s).link.lastRefused = s.link.lastRefused ∧
    (qualificationEnd b s).link.resetCause = s.link.resetCause ∧
    (qualificationEnd b s).link.readData = s.link.readData := by
  simp only [qualificationEnd]
  (repeat' split) <;> simp

@[simp] theorem announceRemoval_frame (b : BayId) (x : Bay) (m n : Nat) (d : Bool) :
    (announceRemoval b x m n d s).pending = s.pending ∧ (announceRemoval b x m n d s).powered = s.powered ∧
    (announceRemoval b x m n d s).time = s.time ∧ (announceRemoval b x m n d s).draws = s.draws ∧
    (announceRemoval b x m n d s).clock = s.clock ∧ (announceRemoval b x m n d s).setup = s.setup ∧
    (announceRemoval b x m n d s).src = s.src ∧ (announceRemoval b x m n d s).gauge = s.gauge ∧
    (announceRemoval b x m n d s).bright = s.bright ∧ (announceRemoval b x m n d s).drv = s.drv ∧
    (announceRemoval b x m n d s).motion = s.motion ∧ (announceRemoval b x m n d s).req = s.req ∧
    (announceRemoval b x m n d s).routes = s.routes ∧ (announceRemoval b x m n d s).link.up = s.link.up ∧
    (announceRemoval b x m n d s).link.platformLow = s.link.platformLow ∧
    (announceRemoval b x m n d s).link.memory = s.link.memory ∧
    (announceRemoval b x m n d s).link.mask = s.link.mask ∧ (announceRemoval b x m n d s).link.arm = s.link.arm ∧
    (announceRemoval b x m n d s).link.setupTaken = s.link.setupTaken ∧
    (announceRemoval b x m n d s).link.lastRefused = s.link.lastRefused ∧
    (announceRemoval b x m n d s).link.resetCause = s.link.resetCause ∧
    (announceRemoval b x m n d s).link.readData = s.link.readData := by
  simp only [announceRemoval]
  (repeat' split) <;> simp

@[simp] theorem enterEmpty_frame (b : BayId) :
    (enterEmpty b s).pending = s.pending ∧ (enterEmpty b s).powered = s.powered ∧
    (enterEmpty b s).time = s.time ∧ (enterEmpty b s).draws = s.draws ∧ (enterEmpty b s).clock = s.clock ∧
    (enterEmpty b s).setup = s.setup ∧ (enterEmpty b s).bright = s.bright ∧ (enterEmpty b s).drv = s.drv ∧
    (enterEmpty b s).motion = s.motion ∧ (enterEmpty b s).hist = s.hist ∧ (enterEmpty b s).req = s.req ∧
    (enterEmpty b s).notices = s.notices ∧ (enterEmpty b s).routes = s.routes ∧ (enterEmpty b s).link = s.link := by
  simp only [enterEmpty]
  (repeat' split) <;> simp

@[simp] theorem removePack_frame (b : BayId) :
    (removePack b s).pending = s.pending ∧ (removePack b s).powered = s.powered ∧
    (removePack b s).time = s.time ∧ (removePack b s).draws = s.draws ∧ (removePack b s).clock = s.clock ∧
    (removePack b s).setup = s.setup ∧ (removePack b s).motion = s.motion ∧ (removePack b s).req = s.req ∧
    (removePack b s).routes = s.routes ∧ (removePack b s).link.up = s.link.up ∧
    (removePack b s).link.platformLow = s.link.platformLow ∧ (removePack b s).link.memory = s.link.memory ∧
    (removePack b s).link.mask = s.link.mask ∧ (removePack b s).link.arm = s.link.arm ∧
    (removePack b s).link.setupTaken = s.link.setupTaken ∧
    (removePack b s).link.lastRefused = s.link.lastRefused ∧
    (removePack b s).link.resetCause = s.link.resetCause ∧ (removePack b s).link.readData = s.link.readData := by
  simp only [removePack]
  (repeat' split) <;> simp

@[simp] theorem holdStart_frame :
    (holdStart s).pending = s.pending ∧ (holdStart s).powered = s.powered ∧ (holdStart s).time = s.time ∧
    (holdStart s).draws = s.draws ∧ (holdStart s).clock = s.clock ∧ (holdStart s).setup = s.setup ∧
    (holdStart s).gauge = s.gauge ∧ (holdStart s).bright = s.bright ∧ (holdStart s).drv = s.drv ∧
    (holdStart s).motion = s.motion ∧ (holdStart s).hist = s.hist ∧ (holdStart s).req = s.req ∧
    (holdStart s).notices = s.notices ∧ (holdStart s).routes = s.routes ∧ (holdStart s).link = s.link ∧
    (holdStart s).pages = s.pages := by
  simp only [holdStart]
  (repeat' split) <;> simp

@[simp] theorem holdBay_frame (b : BayId) :
    (holdBay b s).pending = s.pending ∧ (holdBay b s).powered = s.powered ∧ (holdBay b s).time = s.time ∧
    (holdBay b s).draws = s.draws ∧ (holdBay b s).clock = s.clock ∧ (holdBay b s).setup = s.setup ∧
    (holdBay b s).motion = s.motion ∧ (holdBay b s).hist = s.hist ∧ (holdBay b s).req = s.req ∧
    (holdBay b s).routes = s.routes ∧ (holdBay b s).link.up = s.link.up ∧
    (holdBay b s).link.platformLow = s.link.platformLow ∧ (holdBay b s).link.memory = s.link.memory ∧
    (holdBay b s).link.mask = s.link.mask ∧ (holdBay b s).link.arm = s.link.arm ∧
    (holdBay b s).link.setupTaken = s.link.setupTaken ∧ (holdBay b s).link.lastRefused = s.link.lastRefused ∧
    (holdBay b s).link.resetCause = s.link.resetCause ∧ (holdBay b s).link.readData = s.link.readData := by
  simp only [holdBay]
  (repeat' split) <;> simp

@[simp] theorem returnBay_frame (b : BayId) :
    (returnBay b s).pending = s.pending ∧ (returnBay b s).powered = s.powered ∧ (returnBay b s).time = s.time ∧
    (returnBay b s).draws = s.draws ∧ (returnBay b s).clock = s.clock ∧ (returnBay b s).setup = s.setup ∧
    (returnBay b s).motion = s.motion ∧ (returnBay b s).hist = s.hist ∧ (returnBay b s).req = s.req ∧
    (returnBay b s).routes = s.routes ∧ (returnBay b s).link.up = s.link.up ∧
    (returnBay b s).link.platformLow = s.link.platformLow ∧ (returnBay b s).link.memory = s.link.memory ∧
    (returnBay b s).link.mask = s.link.mask ∧ (returnBay b s).link.arm = s.link.arm ∧
    (returnBay b s).link.setupTaken = s.link.setupTaken ∧ (returnBay b s).link.lastRefused = s.link.lastRefused ∧
    (returnBay b s).link.resetCause = s.link.resetCause ∧ (returnBay b s).link.readData = s.link.readData := by
  simp only [returnBay]
  (repeat' split) <;> simp

@[simp] theorem settleHeld_frame (b : BayId) :
    (settleHeld b s).pending = s.pending ∧ (settleHeld b s).powered = s.powered ∧
    (settleHeld b s).time = s.time ∧ (settleHeld b s).draws = s.draws ∧ (settleHeld b s).clock = s.clock ∧
    (settleHeld b s).setup = s.setup ∧ (settleHeld b s).motion = s.motion ∧ (settleHeld b s).req = s.req ∧
    (settleHeld b s).routes = s.routes ∧ (settleHeld b s).link.up = s.link.up ∧
    (settleHeld b s).link.platformLow = s.link.platformLow ∧ (settleHeld b s).link.memory = s.link.memory ∧
    (settleHeld b s).link.mask = s.link.mask ∧ (settleHeld b s).link.arm = s.link.arm ∧
    (settleHeld b s).link.setupTaken = s.link.setupTaken ∧
    (settleHeld b s).link.lastRefused = s.link.lastRefused ∧
    (settleHeld b s).link.resetCause = s.link.resetCause ∧ (settleHeld b s).link.readData = s.link.readData := by
  simp only [settleHeld]
  (repeat' split) <;> simp

@[simp] theorem latchOpened_frame (b : BayId) :
    (latchOpened b s).pending = s.pending ∧ (latchOpened b s).powered = s.powered ∧
    (latchOpened b s).time = s.time ∧ (latchOpened b s).draws = s.draws ∧ (latchOpened b s).clock = s.clock ∧
    (latchOpened b s).setup = s.setup ∧ (latchOpened b s).motion = s.motion ∧ (latchOpened b s).hist = s.hist ∧
    (latchOpened b s).req = s.req ∧ (latchOpened b s).routes = s.routes ∧ (latchOpened b s).link.up = s.link.up ∧
    (latchOpened b s).link.platformLow = s.link.platformLow ∧ (latchOpened b s).link.memory = s.link.memory ∧
    (latchOpened b s).link.mask = s.link.mask ∧ (latchOpened b s).link.arm = s.link.arm ∧
    (latchOpened b s).link.setupTaken = s.link.setupTaken ∧
    (latchOpened b s).link.lastRefused = s.link.lastRefused ∧
    (latchOpened b s).link.resetCause = s.link.resetCause ∧ (latchOpened b s).link.readData = s.link.readData := by
  simp only [latchOpened]
  (repeat' split) <;> simp

@[simp] theorem latchClosed_frame (b : BayId) :
    (latchClosed b s).pending = s.pending ∧ (latchClosed b s).powered = s.powered ∧
    (latchClosed b s).time = s.time ∧ (latchClosed b s).draws = s.draws ∧ (latchClosed b s).clock = s.clock ∧
    (latchClosed b s).setup = s.setup ∧ (latchClosed b s).motion = s.motion ∧ (latchClosed b s).hist = s.hist ∧
    (latchClosed b s).req = s.req ∧ (latchClosed b s).routes = s.routes ∧ (latchClosed b s).link.up = s.link.up ∧
    (latchClosed b s).link.platformLow = s.link.platformLow ∧ (latchClosed b s).link.memory = s.link.memory ∧
    (latchClosed b s).link.mask = s.link.mask ∧ (latchClosed b s).link.arm = s.link.arm ∧
    (latchClosed b s).link.setupTaken = s.link.setupTaken ∧
    (latchClosed b s).link.lastRefused = s.link.lastRefused ∧
    (latchClosed b s).link.resetCause = s.link.resetCause ∧ (latchClosed b s).link.readData = s.link.readData := by
  simp only [latchClosed]
  (repeat' split) <;> simp

@[simp] theorem noteLatch_frame (b : BayId) :
    (noteLatch b s).pending = s.pending ∧ (noteLatch b s).powered = s.powered ∧ (noteLatch b s).time = s.time ∧
    (noteLatch b s).draws = s.draws ∧ (noteLatch b s).clock = s.clock ∧ (noteLatch b s).setup = s.setup ∧
    (noteLatch b s).gauge = s.gauge ∧ (noteLatch b s).bright = s.bright ∧ (noteLatch b s).drv = s.drv ∧
    (noteLatch b s).motion = s.motion ∧ (noteLatch b s).hist = s.hist ∧ (noteLatch b s).req = s.req ∧
    (noteLatch b s).notices = s.notices ∧ (noteLatch b s).routes = s.routes ∧ (noteLatch b s).link = s.link ∧
    (noteLatch b s).pages = s.pages := by
  simp only [noteLatch]
  (repeat' split) <;> simp

@[simp] theorem applyLatch_frame (b : BayId) :
    (applyLatch b s).pending = s.pending ∧ (applyLatch b s).powered = s.powered ∧
    (applyLatch b s).time = s.time ∧ (applyLatch b s).draws = s.draws ∧ (applyLatch b s).clock = s.clock ∧
    (applyLatch b s).setup = s.setup ∧ (applyLatch b s).motion = s.motion ∧ (applyLatch b s).hist = s.hist ∧
    (applyLatch b s).req = s.req ∧ (applyLatch b s).routes = s.routes ∧ (applyLatch b s).link.up = s.link.up ∧
    (applyLatch b s).link.platformLow = s.link.platformLow ∧ (applyLatch b s).link.memory = s.link.memory ∧
    (applyLatch b s).link.mask = s.link.mask ∧ (applyLatch b s).link.arm = s.link.arm ∧
    (applyLatch b s).link.setupTaken = s.link.setupTaken ∧
    (applyLatch b s).link.lastRefused = s.link.lastRefused ∧
    (applyLatch b s).link.resetCause = s.link.resetCause ∧ (applyLatch b s).link.readData = s.link.readData := by
  simp only [applyLatch]
  (repeat' split) <;> simp

@[simp] theorem settleLatch_frame (b : BayId) :
    (settleLatch b s).pending = s.pending ∧ (settleLatch b s).powered = s.powered ∧
    (settleLatch b s).time = s.time ∧ (settleLatch b s).draws = s.draws ∧ (settleLatch b s).clock = s.clock ∧
    (settleLatch b s).setup = s.setup ∧ (settleLatch b s).motion = s.motion ∧ (settleLatch b s).hist = s.hist ∧
    (settleLatch b s).req = s.req ∧ (settleLatch b s).routes = s.routes ∧ (settleLatch b s).link.up = s.link.up ∧
    (settleLatch b s).link.platformLow = s.link.platformLow ∧ (settleLatch b s).link.memory = s.link.memory ∧
    (settleLatch b s).link.mask = s.link.mask ∧ (settleLatch b s).link.arm = s.link.arm ∧
    (settleLatch b s).link.setupTaken = s.link.setupTaken ∧
    (settleLatch b s).link.lastRefused = s.link.lastRefused ∧
    (settleLatch b s).link.resetCause = s.link.resetCause ∧ (settleLatch b s).link.readData = s.link.readData := by
  simp only [settleLatch]
  (repeat' split) <;> simp

@[simp] theorem settleLatches_frame :
    (settleLatches s).pending = s.pending ∧ (settleLatches s).powered = s.powered ∧
    (settleLatches s).time = s.time ∧ (settleLatches s).draws = s.draws ∧ (settleLatches s).clock = s.clock ∧
    (settleLatches s).setup = s.setup ∧ (settleLatches s).motion = s.motion ∧ (settleLatches s).hist = s.hist ∧
    (settleLatches s).req = s.req ∧ (settleLatches s).routes = s.routes ∧ (settleLatches s).link.up = s.link.up ∧
    (settleLatches s).link.platformLow = s.link.platformLow ∧ (settleLatches s).link.memory = s.link.memory ∧
    (settleLatches s).link.mask = s.link.mask ∧ (settleLatches s).link.arm = s.link.arm ∧
    (settleLatches s).link.setupTaken = s.link.setupTaken ∧
    (settleLatches s).link.lastRefused = s.link.lastRefused ∧
    (settleLatches s).link.resetCause = s.link.resetCause ∧ (settleLatches s).link.readData = s.link.readData := by
  simp only [settleLatches]
  (repeat' split) <;> simp

@[simp] theorem runDeferred_frame :
    (runDeferred s).pending = s.pending ∧ (runDeferred s).powered = s.powered ∧ (runDeferred s).time = s.time ∧
    (runDeferred s).draws = s.draws ∧ (runDeferred s).clock = s.clock ∧ (runDeferred s).setup = s.setup ∧
    (runDeferred s).motion = s.motion ∧ (runDeferred s).hist = s.hist ∧ (runDeferred s).req = s.req ∧
    (runDeferred s).routes = s.routes ∧ (runDeferred s).link.up = s.link.up ∧
    (runDeferred s).link.platformLow = s.link.platformLow ∧ (runDeferred s).link.memory = s.link.memory ∧
    (runDeferred s).link.mask = s.link.mask ∧ (runDeferred s).link.arm = s.link.arm ∧
    (runDeferred s).link.setupTaken = s.link.setupTaken ∧ (runDeferred s).link.lastRefused = s.link.lastRefused ∧
    (runDeferred s).link.resetCause = s.link.resetCause ∧ (runDeferred s).link.readData = s.link.readData := by
  simp only [runDeferred]
  (repeat' split) <;> simp

@[simp] theorem holdEnd_frame :
    (holdEnd s).pending = s.pending ∧ (holdEnd s).powered = s.powered ∧ (holdEnd s).time = s.time ∧
    (holdEnd s).draws = s.draws ∧ (holdEnd s).clock = s.clock ∧ (holdEnd s).setup = s.setup ∧
    (holdEnd s).motion = s.motion ∧ (holdEnd s).req = s.req ∧ (holdEnd s).routes = s.routes ∧
    (holdEnd s).link.up = s.link.up ∧ (holdEnd s).link.platformLow = s.link.platformLow ∧
    (holdEnd s).link.memory = s.link.memory ∧ (holdEnd s).link.mask = s.link.mask ∧
    (holdEnd s).link.arm = s.link.arm ∧ (holdEnd s).link.setupTaken = s.link.setupTaken ∧
    (holdEnd s).link.lastRefused = s.link.lastRefused ∧ (holdEnd s).link.resetCause = s.link.resetCause ∧
    (holdEnd s).link.readData = s.link.readData := by
  simp only [holdEnd]
  (repeat' split) <;> simp

@[simp] theorem setRaw_frame (c : Contact) (x : Bool) :
    (setRaw c x s).pending = s.pending ∧ (setRaw c x s).powered = s.powered ∧ (setRaw c x s).time = s.time ∧
    (setRaw c x s).draws = s.draws ∧ (setRaw c x s).clock = s.clock ∧ (setRaw c x s).setup = s.setup ∧
    (setRaw c x s).gauge = s.gauge ∧ (setRaw c x s).bright = s.bright ∧ (setRaw c x s).drv = s.drv ∧
    (setRaw c x s).motion = s.motion ∧ (setRaw c x s).hist = s.hist ∧ (setRaw c x s).req = s.req ∧
    (setRaw c x s).notices = s.notices ∧ (setRaw c x s).routes = s.routes ∧ (setRaw c x s).link = s.link ∧
    (setRaw c x s).pages = s.pages := by
  simp only [setRaw]
  (repeat' split) <;> simp

@[simp] theorem seatPack_frame (b : BayId) :
    (seatPack b s).pending = s.pending ∧ (seatPack b s).powered = s.powered ∧ (seatPack b s).time = s.time ∧
    (seatPack b s).draws = s.draws ∧ (seatPack b s).clock = s.clock ∧ (seatPack b s).setup = s.setup ∧
    (seatPack b s).gauge = s.gauge ∧ (seatPack b s).bright = s.bright ∧ (seatPack b s).drv = s.drv ∧
    (seatPack b s).motion = s.motion ∧ (seatPack b s).hist = s.hist ∧ (seatPack b s).req = s.req ∧
    (seatPack b s).routes = s.routes ∧ (seatPack b s).link.up = s.link.up ∧
    (seatPack b s).link.platformLow = s.link.platformLow ∧ (seatPack b s).link.memory = s.link.memory ∧
    (seatPack b s).link.mask = s.link.mask ∧ (seatPack b s).link.arm = s.link.arm ∧
    (seatPack b s).link.setupTaken = s.link.setupTaken ∧ (seatPack b s).link.lastRefused = s.link.lastRefused ∧
    (seatPack b s).link.resetCause = s.link.resetCause ∧ (seatPack b s).link.readData = s.link.readData := by
  simp only [seatPack]
  (repeat' split) <;> simp

@[simp] theorem packArrives_frame (b : BayId) :
    (packArrives b s).pending = s.pending ∧ (packArrives b s).powered = s.powered ∧
    (packArrives b s).time = s.time ∧ (packArrives b s).draws = s.draws ∧ (packArrives b s).clock = s.clock ∧
    (packArrives b s).setup = s.setup ∧ (packArrives b s).motion = s.motion ∧ (packArrives b s).hist = s.hist ∧
    (packArrives b s).req = s.req ∧ (packArrives b s).routes = s.routes ∧ (packArrives b s).link.up = s.link.up ∧
    (packArrives b s).link.platformLow = s.link.platformLow ∧ (packArrives b s).link.memory = s.link.memory ∧
    (packArrives b s).link.mask = s.link.mask ∧ (packArrives b s).link.arm = s.link.arm ∧
    (packArrives b s).link.setupTaken = s.link.setupTaken ∧
    (packArrives b s).link.lastRefused = s.link.lastRefused ∧
    (packArrives b s).link.resetCause = s.link.resetCause ∧ (packArrives b s).link.readData = s.link.readData := by
  simp only [packArrives]
  (repeat' split) <;> simp

@[simp] theorem packLeaves_frame (b : BayId) :
    (packLeaves b s).pending = s.pending ∧ (packLeaves b s).powered = s.powered ∧
    (packLeaves b s).time = s.time ∧ (packLeaves b s).draws = s.draws ∧ (packLeaves b s).clock = s.clock ∧
    (packLeaves b s).setup = s.setup ∧ (packLeaves b s).motion = s.motion ∧ (packLeaves b s).req = s.req ∧
    (packLeaves b s).routes = s.routes ∧ (packLeaves b s).link.up = s.link.up ∧
    (packLeaves b s).link.platformLow = s.link.platformLow ∧ (packLeaves b s).link.memory = s.link.memory ∧
    (packLeaves b s).link.mask = s.link.mask ∧ (packLeaves b s).link.arm = s.link.arm ∧
    (packLeaves b s).link.setupTaken = s.link.setupTaken ∧
    (packLeaves b s).link.lastRefused = s.link.lastRefused ∧
    (packLeaves b s).link.resetCause = s.link.resetCause ∧ (packLeaves b s).link.readData = s.link.readData := by
  simp only [packLeaves]
  (repeat' split) <;> simp

@[simp] theorem acceptPresent_frame (b : BayId) :
    (acceptPresent b s).pending = s.pending ∧ (acceptPresent b s).powered = s.powered ∧
    (acceptPresent b s).time = s.time ∧ (acceptPresent b s).draws = s.draws ∧
    (acceptPresent b s).clock = s.clock ∧ (acceptPresent b s).setup = s.setup ∧
    (acceptPresent b s).motion = s.motion ∧ (acceptPresent b s).req = s.req ∧
    (acceptPresent b s).routes = s.routes ∧ (acceptPresent b s).link.up = s.link.up ∧
    (acceptPresent b s).link.platformLow = s.link.platformLow ∧ (acceptPresent b s).link.memory = s.link.memory ∧
    (acceptPresent b s).link.mask = s.link.mask ∧ (acceptPresent b s).link.arm = s.link.arm ∧
    (acceptPresent b s).link.setupTaken = s.link.setupTaken ∧
    (acceptPresent b s).link.lastRefused = s.link.lastRefused ∧
    (acceptPresent b s).link.resetCause = s.link.resetCause ∧ (acceptPresent b s).link.readData = s.link.readData := by
  simp only [acceptPresent]
  (repeat' split) <;> simp

@[simp] theorem acceptLatch_frame (b : BayId) :
    (acceptLatch b s).pending = s.pending ∧ (acceptLatch b s).powered = s.powered ∧
    (acceptLatch b s).time = s.time ∧ (acceptLatch b s).draws = s.draws ∧ (acceptLatch b s).clock = s.clock ∧
    (acceptLatch b s).setup = s.setup ∧ (acceptLatch b s).motion = s.motion ∧ (acceptLatch b s).hist = s.hist ∧
    (acceptLatch b s).req = s.req ∧ (acceptLatch b s).routes = s.routes ∧ (acceptLatch b s).link.up = s.link.up ∧
    (acceptLatch b s).link.platformLow = s.link.platformLow ∧ (acceptLatch b s).link.memory = s.link.memory ∧
    (acceptLatch b s).link.mask = s.link.mask ∧ (acceptLatch b s).link.arm = s.link.arm ∧
    (acceptLatch b s).link.setupTaken = s.link.setupTaken ∧
    (acceptLatch b s).link.lastRefused = s.link.lastRefused ∧
    (acceptLatch b s).link.resetCause = s.link.resetCause ∧ (acceptLatch b s).link.readData = s.link.readData := by
  simp only [acceptLatch]
  (repeat' split) <;> simp

@[simp] theorem endOfCharge_frame (b : BayId) :
    (endOfCharge b s).pending = s.pending ∧ (endOfCharge b s).powered = s.powered ∧
    (endOfCharge b s).time = s.time ∧ (endOfCharge b s).draws = s.draws ∧ (endOfCharge b s).clock = s.clock ∧
    (endOfCharge b s).setup = s.setup ∧ (endOfCharge b s).motion = s.motion ∧ (endOfCharge b s).hist = s.hist ∧
    (endOfCharge b s).req = s.req ∧ (endOfCharge b s).routes = s.routes ∧ (endOfCharge b s).link.up = s.link.up ∧
    (endOfCharge b s).link.platformLow = s.link.platformLow ∧ (endOfCharge b s).link.memory = s.link.memory ∧
    (endOfCharge b s).link.mask = s.link.mask ∧ (endOfCharge b s).link.arm = s.link.arm ∧
    (endOfCharge b s).link.setupTaken = s.link.setupTaken ∧
    (endOfCharge b s).link.lastRefused = s.link.lastRefused ∧
    (endOfCharge b s).link.resetCause = s.link.resetCause ∧ (endOfCharge b s).link.readData = s.link.readData := by
  simp only [endOfCharge]
  (repeat' split) <;> simp

@[simp] theorem acceptChgDone_frame :
    (acceptChgDone s).pending = s.pending ∧ (acceptChgDone s).powered = s.powered ∧
    (acceptChgDone s).time = s.time ∧ (acceptChgDone s).draws = s.draws ∧ (acceptChgDone s).clock = s.clock ∧
    (acceptChgDone s).setup = s.setup ∧ (acceptChgDone s).motion = s.motion ∧ (acceptChgDone s).hist = s.hist ∧
    (acceptChgDone s).req = s.req ∧ (acceptChgDone s).routes = s.routes ∧ (acceptChgDone s).link.up = s.link.up ∧
    (acceptChgDone s).link.platformLow = s.link.platformLow ∧ (acceptChgDone s).link.memory = s.link.memory ∧
    (acceptChgDone s).link.mask = s.link.mask ∧ (acceptChgDone s).link.arm = s.link.arm ∧
    (acceptChgDone s).link.setupTaken = s.link.setupTaken ∧
    (acceptChgDone s).link.lastRefused = s.link.lastRefused ∧
    (acceptChgDone s).link.resetCause = s.link.resetCause ∧ (acceptChgDone s).link.readData = s.link.readData := by
  simp only [acceptChgDone]
  (repeat' split) <;> simp

@[simp] theorem setLines_frame (l : SysrunLines) :
    (setLines l s).pending = s.pending ∧ (setLines l s).powered = s.powered ∧ (setLines l s).time = s.time ∧
    (setLines l s).draws = s.draws ∧ (setLines l s).clock = s.clock ∧ (setLines l s).setup = s.setup ∧
    (setLines l s).gauge = s.gauge ∧ (setLines l s).bright = s.bright ∧ (setLines l s).drv = s.drv ∧
    (setLines l s).motion = s.motion ∧ (setLines l s).hist = s.hist ∧ (setLines l s).req = s.req ∧
    (setLines l s).notices = s.notices ∧ (setLines l s).routes = s.routes ∧ (setLines l s).link = s.link ∧
    (setLines l s).pages = s.pages := by
  simp only [setLines]
  (repeat' split) <;> simp

@[simp] theorem acceptSysrun_frame :
    (acceptSysrun s).pending = s.pending ∧ (acceptSysrun s).powered = s.powered ∧
    (acceptSysrun s).time = s.time ∧ (acceptSysrun s).draws = s.draws ∧ (acceptSysrun s).clock = s.clock ∧
    (acceptSysrun s).setup = s.setup ∧ (acceptSysrun s).gauge = s.gauge ∧ (acceptSysrun s).motion = s.motion ∧
    (acceptSysrun s).hist = s.hist ∧ (acceptSysrun s).req = s.req ∧ (acceptSysrun s).routes = s.routes ∧
    (acceptSysrun s).link.up = s.link.up ∧ (acceptSysrun s).link.platformLow = s.link.platformLow ∧
    (acceptSysrun s).link.memory = s.link.memory ∧ (acceptSysrun s).link.mask = s.link.mask ∧
    (acceptSysrun s).link.arm = s.link.arm ∧ (acceptSysrun s).link.setupTaken = s.link.setupTaken ∧
    (acceptSysrun s).link.lastRefused = s.link.lastRefused ∧
    (acceptSysrun s).link.resetCause = s.link.resetCause ∧ (acceptSysrun s).link.readData = s.link.readData := by
  simp only [acceptSysrun]
  (repeat' split) <;> simp

@[simp] theorem tripPack_frame (b : BayId) :
    (tripPack b s).pending = s.pending ∧ (tripPack b s).powered = s.powered ∧ (tripPack b s).time = s.time ∧
    (tripPack b s).draws = s.draws ∧ (tripPack b s).clock = s.clock ∧ (tripPack b s).setup = s.setup ∧
    (tripPack b s).motion = s.motion ∧ (tripPack b s).hist = s.hist ∧ (tripPack b s).req = s.req ∧
    (tripPack b s).routes = s.routes ∧ (tripPack b s).link.up = s.link.up ∧
    (tripPack b s).link.platformLow = s.link.platformLow ∧ (tripPack b s).link.memory = s.link.memory ∧
    (tripPack b s).link.mask = s.link.mask ∧ (tripPack b s).link.arm = s.link.arm ∧
    (tripPack b s).link.setupTaken = s.link.setupTaken ∧ (tripPack b s).link.lastRefused = s.link.lastRefused ∧
    (tripPack b s).link.resetCause = s.link.resetCause ∧ (tripPack b s).link.readData = s.link.readData := by
  simp only [tripPack]
  (repeat' split) <;> simp

@[simp] theorem releasePack_frame (b : BayId) :
    (releasePack b s).pending = s.pending ∧ (releasePack b s).powered = s.powered ∧
    (releasePack b s).time = s.time ∧ (releasePack b s).draws = s.draws ∧ (releasePack b s).clock = s.clock ∧
    (releasePack b s).setup = s.setup ∧ (releasePack b s).motion = s.motion ∧ (releasePack b s).hist = s.hist ∧
    (releasePack b s).req = s.req ∧ (releasePack b s).routes = s.routes ∧ (releasePack b s).link.up = s.link.up ∧
    (releasePack b s).link.platformLow = s.link.platformLow ∧ (releasePack b s).link.memory = s.link.memory ∧
    (releasePack b s).link.mask = s.link.mask ∧ (releasePack b s).link.arm = s.link.arm ∧
    (releasePack b s).link.setupTaken = s.link.setupTaken ∧
    (releasePack b s).link.lastRefused = s.link.lastRefused ∧
    (releasePack b s).link.resetCause = s.link.resetCause ∧ (releasePack b s).link.readData = s.link.readData := by
  simp only [releasePack]
  (repeat' split) <;> simp

@[simp] theorem monitorPack_frame (b : BayId) :
    (monitorPack b s).pending = s.pending ∧ (monitorPack b s).powered = s.powered ∧
    (monitorPack b s).time = s.time ∧ (monitorPack b s).draws = s.draws ∧ (monitorPack b s).clock = s.clock ∧
    (monitorPack b s).setup = s.setup ∧ (monitorPack b s).motion = s.motion ∧ (monitorPack b s).hist = s.hist ∧
    (monitorPack b s).req = s.req ∧ (monitorPack b s).routes = s.routes ∧ (monitorPack b s).link.up = s.link.up ∧
    (monitorPack b s).link.platformLow = s.link.platformLow ∧ (monitorPack b s).link.memory = s.link.memory ∧
    (monitorPack b s).link.mask = s.link.mask ∧ (monitorPack b s).link.arm = s.link.arm ∧
    (monitorPack b s).link.setupTaken = s.link.setupTaken ∧
    (monitorPack b s).link.lastRefused = s.link.lastRefused ∧
    (monitorPack b s).link.resetCause = s.link.resetCause ∧ (monitorPack b s).link.readData = s.link.readData := by
  simp only [monitorPack]
  (repeat' split) <;> simp

@[simp] theorem checkWindow_frame (b : BayId) :
    (checkWindow b s).pending = s.pending ∧ (checkWindow b s).powered = s.powered ∧
    (checkWindow b s).time = s.time ∧ (checkWindow b s).draws = s.draws ∧ (checkWindow b s).clock = s.clock ∧
    (checkWindow b s).setup = s.setup ∧ (checkWindow b s).gauge = s.gauge ∧ (checkWindow b s).bright = s.bright ∧
    (checkWindow b s).drv = s.drv ∧ (checkWindow b s).motion = s.motion ∧ (checkWindow b s).hist = s.hist ∧
    (checkWindow b s).req = s.req ∧ (checkWindow b s).notices = s.notices ∧ (checkWindow b s).routes = s.routes ∧
    (checkWindow b s).link = s.link ∧ (checkWindow b s).pages = s.pages := by
  simp only [checkWindow]
  (repeat' split) <;> simp

@[simp] theorem setBridge_frame (m : BridgeMonitor) :
    (setBridge m s).pending = s.pending ∧ (setBridge m s).powered = s.powered ∧ (setBridge m s).time = s.time ∧
    (setBridge m s).draws = s.draws ∧ (setBridge m s).clock = s.clock ∧ (setBridge m s).setup = s.setup ∧
    (setBridge m s).motion = s.motion ∧ (setBridge m s).hist = s.hist ∧ (setBridge m s).req = s.req ∧
    (setBridge m s).routes = s.routes ∧ (setBridge m s).link.up = s.link.up ∧
    (setBridge m s).link.platformLow = s.link.platformLow ∧ (setBridge m s).link.memory = s.link.memory ∧
    (setBridge m s).link.mask = s.link.mask ∧ (setBridge m s).link.arm = s.link.arm ∧
    (setBridge m s).link.setupTaken = s.link.setupTaken ∧ (setBridge m s).link.lastRefused = s.link.lastRefused ∧
    (setBridge m s).link.resetCause = s.link.resetCause ∧ (setBridge m s).link.readData = s.link.readData := by
  simp only [setBridge]
  (repeat' split) <;> simp

@[simp] theorem monitorBridge_frame :
    (monitorBridge s).pending = s.pending ∧ (monitorBridge s).powered = s.powered ∧
    (monitorBridge s).time = s.time ∧ (monitorBridge s).draws = s.draws ∧ (monitorBridge s).clock = s.clock ∧
    (monitorBridge s).setup = s.setup ∧ (monitorBridge s).motion = s.motion ∧ (monitorBridge s).hist = s.hist ∧
    (monitorBridge s).req = s.req ∧ (monitorBridge s).routes = s.routes ∧ (monitorBridge s).link.up = s.link.up ∧
    (monitorBridge s).link.platformLow = s.link.platformLow ∧ (monitorBridge s).link.memory = s.link.memory ∧
    (monitorBridge s).link.mask = s.link.mask ∧ (monitorBridge s).link.arm = s.link.arm ∧
    (monitorBridge s).link.setupTaken = s.link.setupTaken ∧
    (monitorBridge s).link.lastRefused = s.link.lastRefused ∧
    (monitorBridge s).link.resetCause = s.link.resetCause ∧ (monitorBridge s).link.readData = s.link.readData := by
  simp only [monitorBridge]
  (repeat' split) <;> simp

@[simp] theorem checkCutoff_frame :
    (checkCutoff s).pending = s.pending ∧ (checkCutoff s).powered = s.powered ∧ (checkCutoff s).time = s.time ∧
    (checkCutoff s).draws = s.draws ∧ (checkCutoff s).clock = s.clock ∧ (checkCutoff s).setup = s.setup ∧
    (checkCutoff s).motion = s.motion ∧ (checkCutoff s).hist = s.hist ∧ (checkCutoff s).req = s.req ∧
    (checkCutoff s).routes = s.routes ∧ (checkCutoff s).link.up = s.link.up ∧
    (checkCutoff s).link.platformLow = s.link.platformLow ∧ (checkCutoff s).link.memory = s.link.memory ∧
    (checkCutoff s).link.mask = s.link.mask ∧ (checkCutoff s).link.arm = s.link.arm ∧
    (checkCutoff s).link.setupTaken = s.link.setupTaken ∧ (checkCutoff s).link.lastRefused = s.link.lastRefused ∧
    (checkCutoff s).link.resetCause = s.link.resetCause ∧ (checkCutoff s).link.readData = s.link.readData := by
  simp only [checkCutoff]
  (repeat' split) <;> simp

@[simp] theorem setDc_frame (x : Bool) :
    (setDc x s).pending = s.pending ∧ (setDc x s).powered = s.powered ∧ (setDc x s).time = s.time ∧
    (setDc x s).draws = s.draws ∧ (setDc x s).clock = s.clock ∧ (setDc x s).setup = s.setup ∧
    (setDc x s).motion = s.motion ∧ (setDc x s).hist = s.hist ∧ (setDc x s).req = s.req ∧
    (setDc x s).routes = s.routes ∧ (setDc x s).link.up = s.link.up ∧
    (setDc x s).link.platformLow = s.link.platformLow ∧ (setDc x s).link.memory = s.link.memory ∧
    (setDc x s).link.mask = s.link.mask ∧ (setDc x s).link.arm = s.link.arm ∧
    (setDc x s).link.setupTaken = s.link.setupTaken ∧ (setDc x s).link.lastRefused = s.link.lastRefused ∧
    (setDc x s).link.resetCause = s.link.resetCause ∧ (setDc x s).link.readData = s.link.readData := by
  simp only [setDc]
  (repeat' split) <;> simp

@[simp] theorem monitorDc_frame :
    (monitorDc s).pending = s.pending ∧ (monitorDc s).powered = s.powered ∧ (monitorDc s).time = s.time ∧
    (monitorDc s).draws = s.draws ∧ (monitorDc s).clock = s.clock ∧ (monitorDc s).setup = s.setup ∧
    (monitorDc s).motion = s.motion ∧ (monitorDc s).hist = s.hist ∧ (monitorDc s).req = s.req ∧
    (monitorDc s).routes = s.routes ∧ (monitorDc s).link.up = s.link.up ∧
    (monitorDc s).link.platformLow = s.link.platformLow ∧ (monitorDc s).link.memory = s.link.memory ∧
    (monitorDc s).link.mask = s.link.mask ∧ (monitorDc s).link.arm = s.link.arm ∧
    (monitorDc s).link.setupTaken = s.link.setupTaken ∧ (monitorDc s).link.lastRefused = s.link.lastRefused ∧
    (monitorDc s).link.resetCause = s.link.resetCause ∧ (monitorDc s).link.readData = s.link.readData := by
  simp only [monitorDc]
  (repeat' split) <;> simp

@[simp] theorem returnWaiting_frame (b : BayId) :
    (returnWaiting b s).pending = s.pending ∧ (returnWaiting b s).powered = s.powered ∧
    (returnWaiting b s).time = s.time ∧ (returnWaiting b s).draws = s.draws ∧
    (returnWaiting b s).clock = s.clock ∧ (returnWaiting b s).setup = s.setup ∧
    (returnWaiting b s).motion = s.motion ∧ (returnWaiting b s).hist = s.hist ∧ (returnWaiting b s).req = s.req ∧
    (returnWaiting b s).routes = s.routes ∧ (returnWaiting b s).link.up = s.link.up ∧
    (returnWaiting b s).link.platformLow = s.link.platformLow ∧ (returnWaiting b s).link.memory = s.link.memory ∧
    (returnWaiting b s).link.mask = s.link.mask ∧ (returnWaiting b s).link.arm = s.link.arm ∧
    (returnWaiting b s).link.setupTaken = s.link.setupTaken ∧
    (returnWaiting b s).link.lastRefused = s.link.lastRefused ∧
    (returnWaiting b s).link.resetCause = s.link.resetCause ∧ (returnWaiting b s).link.readData = s.link.readData := by
  simp only [returnWaiting]
  (repeat' split) <;> simp

@[simp] theorem takeRound_frame (r : Round) :
    (takeRound r s).pending = s.pending ∧ (takeRound r s).powered = s.powered ∧ (takeRound r s).time = s.time ∧
    (takeRound r s).draws = s.draws ∧ (takeRound r s).clock = s.clock ∧ (takeRound r s).setup = s.setup ∧
    (takeRound r s).gauge = s.gauge ∧ (takeRound r s).bright = s.bright ∧ (takeRound r s).drv = s.drv ∧
    (takeRound r s).motion = s.motion ∧ (takeRound r s).hist = s.hist ∧ (takeRound r s).req = s.req ∧
    (takeRound r s).notices = s.notices ∧ (takeRound r s).routes = s.routes ∧ (takeRound r s).link = s.link ∧
    (takeRound r s).pages = s.pages := by
  simp only [takeRound]
  (repeat' split) <;> simp

@[simp] theorem gaugeRound_frame :
    (gaugeRound s).pending = s.pending ∧ (gaugeRound s).powered = s.powered ∧ (gaugeRound s).time = s.time ∧
    (gaugeRound s).draws = s.draws ∧ (gaugeRound s).clock = s.clock ∧ (gaugeRound s).setup = s.setup ∧
    (gaugeRound s).motion = s.motion ∧ (gaugeRound s).hist = s.hist ∧ (gaugeRound s).req = s.req ∧
    (gaugeRound s).routes = s.routes ∧ (gaugeRound s).link.up = s.link.up ∧
    (gaugeRound s).link.platformLow = s.link.platformLow ∧ (gaugeRound s).link.memory = s.link.memory ∧
    (gaugeRound s).link.mask = s.link.mask ∧ (gaugeRound s).link.arm = s.link.arm ∧
    (gaugeRound s).link.setupTaken = s.link.setupTaken ∧ (gaugeRound s).link.lastRefused = s.link.lastRefused ∧
    (gaugeRound s).link.resetCause = s.link.resetCause ∧ (gaugeRound s).link.readData = s.link.readData := by
  simp only [gaugeRound]
  (repeat' split) <;> simp

@[simp] theorem powerRound_frame (r : Round) :
    (powerRound r s).pending = s.pending ∧ (powerRound r s).powered = s.powered ∧
    (powerRound r s).time = s.time ∧ (powerRound r s).draws = s.draws ∧ (powerRound r s).clock = s.clock ∧
    (powerRound r s).setup = s.setup ∧ (powerRound r s).motion = s.motion ∧ (powerRound r s).hist = s.hist ∧
    (powerRound r s).req = s.req ∧ (powerRound r s).routes = s.routes ∧ (powerRound r s).link.up = s.link.up ∧
    (powerRound r s).link.platformLow = s.link.platformLow ∧ (powerRound r s).link.memory = s.link.memory ∧
    (powerRound r s).link.mask = s.link.mask ∧ (powerRound r s).link.arm = s.link.arm ∧
    (powerRound r s).link.setupTaken = s.link.setupTaken ∧
    (powerRound r s).link.lastRefused = s.link.lastRefused ∧
    (powerRound r s).link.resetCause = s.link.resetCause ∧ (powerRound r s).link.readData = s.link.readData := by
  simp only [powerRound]
  (repeat' split) <;> simp

@[simp] theorem applyNote_frame (n : Bool) (b : BayId) :
    (applyNote n b s).pending = s.pending ∧ (applyNote n b s).powered = s.powered ∧
    (applyNote n b s).time = s.time ∧ (applyNote n b s).draws = s.draws ∧ (applyNote n b s).clock = s.clock ∧
    (applyNote n b s).setup = s.setup ∧ (applyNote n b s).motion = s.motion ∧ (applyNote n b s).hist = s.hist ∧
    (applyNote n b s).req = s.req ∧ (applyNote n b s).routes = s.routes ∧ (applyNote n b s).link.up = s.link.up ∧
    (applyNote n b s).link.platformLow = s.link.platformLow ∧ (applyNote n b s).link.memory = s.link.memory ∧
    (applyNote n b s).link.mask = s.link.mask ∧ (applyNote n b s).link.arm = s.link.arm ∧
    (applyNote n b s).link.setupTaken = s.link.setupTaken ∧
    (applyNote n b s).link.lastRefused = s.link.lastRefused ∧
    (applyNote n b s).link.resetCause = s.link.resetCause ∧ (applyNote n b s).link.readData = s.link.readData := by
  simp only [applyNote]
  (repeat' split) <;> simp

@[simp] theorem finishPreparation_frame (r : ResultCode) :
    (finishPreparation r s).pending = s.pending ∧ (finishPreparation r s).powered = s.powered ∧
    (finishPreparation r s).time = s.time ∧ (finishPreparation r s).draws = s.draws ∧
    (finishPreparation r s).clock = s.clock ∧ (finishPreparation r s).setup = s.setup ∧
    (finishPreparation r s).gauge = s.gauge ∧ (finishPreparation r s).bright = s.bright ∧
    (finishPreparation r s).drv = s.drv ∧ (finishPreparation r s).motion = s.motion ∧
    (finishPreparation r s).hist = s.hist ∧ (finishPreparation r s).notices = s.notices ∧
    (finishPreparation r s).routes = s.routes ∧ (finishPreparation r s).pages = s.pages ∧
    (finishPreparation r s).link.up = s.link.up ∧ (finishPreparation r s).link.platformLow = s.link.platformLow ∧
    (finishPreparation r s).link.mask = s.link.mask ∧ (finishPreparation r s).link.arm = s.link.arm ∧
    (finishPreparation r s).link.setupTaken = s.link.setupTaken ∧
    (finishPreparation r s).link.lastRefused = s.link.lastRefused ∧
    (finishPreparation r s).link.resetCause = s.link.resetCause ∧
    (finishPreparation r s).link.readData = s.link.readData := by
  simp only [finishPreparation]
  (repeat' split) <;> simp

@[simp] theorem prepareOutcome_frame (b : BayId) :
    (prepareOutcome b s).pending = s.pending ∧ (prepareOutcome b s).powered = s.powered ∧
    (prepareOutcome b s).time = s.time ∧ (prepareOutcome b s).draws = s.draws ∧
    (prepareOutcome b s).clock = s.clock ∧ (prepareOutcome b s).setup = s.setup ∧
    (prepareOutcome b s).motion = s.motion ∧ (prepareOutcome b s).hist = s.hist ∧
    (prepareOutcome b s).routes = s.routes ∧ (prepareOutcome b s).link.up = s.link.up ∧
    (prepareOutcome b s).link.platformLow = s.link.platformLow ∧ (prepareOutcome b s).link.mask = s.link.mask ∧
    (prepareOutcome b s).link.arm = s.link.arm ∧ (prepareOutcome b s).link.setupTaken = s.link.setupTaken ∧
    (prepareOutcome b s).link.lastRefused = s.link.lastRefused ∧
    (prepareOutcome b s).link.resetCause = s.link.resetCause ∧
    (prepareOutcome b s).link.readData = s.link.readData := by
  simp only [prepareOutcome]
  (repeat' split) <;> simp

@[simp] theorem prepareSwitch_frame :
    (prepareSwitch s).pending = s.pending ∧ (prepareSwitch s).powered = s.powered ∧
    (prepareSwitch s).time = s.time ∧ (prepareSwitch s).draws = s.draws ∧ (prepareSwitch s).clock = s.clock ∧
    (prepareSwitch s).setup = s.setup ∧ (prepareSwitch s).motion = s.motion ∧ (prepareSwitch s).hist = s.hist ∧
    (prepareSwitch s).routes = s.routes ∧ (prepareSwitch s).link.up = s.link.up ∧
    (prepareSwitch s).link.platformLow = s.link.platformLow ∧ (prepareSwitch s).link.mask = s.link.mask ∧
    (prepareSwitch s).link.arm = s.link.arm ∧ (prepareSwitch s).link.setupTaken = s.link.setupTaken ∧
    (prepareSwitch s).link.lastRefused = s.link.lastRefused ∧
    (prepareSwitch s).link.resetCause = s.link.resetCause ∧ (prepareSwitch s).link.readData = s.link.readData := by
  simp only [prepareSwitch]
  (repeat' split) <;> simp

@[simp] theorem lapse_frame (b : BayId) :
    (lapse b s).pending = s.pending ∧ (lapse b s).powered = s.powered ∧ (lapse b s).time = s.time ∧
    (lapse b s).draws = s.draws ∧ (lapse b s).clock = s.clock ∧ (lapse b s).setup = s.setup ∧
    (lapse b s).motion = s.motion ∧ (lapse b s).hist = s.hist ∧ (lapse b s).req = s.req ∧
    (lapse b s).routes = s.routes ∧ (lapse b s).link.up = s.link.up ∧
    (lapse b s).link.platformLow = s.link.platformLow ∧ (lapse b s).link.memory = s.link.memory ∧
    (lapse b s).link.mask = s.link.mask ∧ (lapse b s).link.arm = s.link.arm ∧
    (lapse b s).link.setupTaken = s.link.setupTaken ∧ (lapse b s).link.lastRefused = s.link.lastRefused ∧
    (lapse b s).link.resetCause = s.link.resetCause ∧ (lapse b s).link.readData = s.link.readData := by
  simp only [lapse]
  (repeat' split) <;> simp

@[simp] theorem preparedExpiry_frame (b : BayId) :
    (preparedExpiry b s).pending = s.pending ∧ (preparedExpiry b s).powered = s.powered ∧
    (preparedExpiry b s).time = s.time ∧ (preparedExpiry b s).draws = s.draws ∧
    (preparedExpiry b s).clock = s.clock ∧ (preparedExpiry b s).setup = s.setup ∧
    (preparedExpiry b s).motion = s.motion ∧ (preparedExpiry b s).hist = s.hist ∧
    (preparedExpiry b s).req = s.req ∧ (preparedExpiry b s).routes = s.routes ∧
    (preparedExpiry b s).link.up = s.link.up ∧ (preparedExpiry b s).link.platformLow = s.link.platformLow ∧
    (preparedExpiry b s).link.memory = s.link.memory ∧ (preparedExpiry b s).link.mask = s.link.mask ∧
    (preparedExpiry b s).link.arm = s.link.arm ∧ (preparedExpiry b s).link.setupTaken = s.link.setupTaken ∧
    (preparedExpiry b s).link.lastRefused = s.link.lastRefused ∧
    (preparedExpiry b s).link.resetCause = s.link.resetCause ∧
    (preparedExpiry b s).link.readData = s.link.readData := by
  simp only [preparedExpiry]
  (repeat' split) <;> simp

@[simp] theorem rideExpiry_frame :
    (rideExpiry s).pending = s.pending ∧ (rideExpiry s).powered = s.powered ∧ (rideExpiry s).time = s.time ∧
    (rideExpiry s).draws = s.draws ∧ (rideExpiry s).clock = s.clock ∧ (rideExpiry s).setup = s.setup ∧
    (rideExpiry s).motion = s.motion ∧ (rideExpiry s).hist = s.hist ∧ (rideExpiry s).req = s.req ∧
    (rideExpiry s).routes = s.routes ∧ (rideExpiry s).link.up = s.link.up ∧
    (rideExpiry s).link.platformLow = s.link.platformLow ∧ (rideExpiry s).link.memory = s.link.memory ∧
    (rideExpiry s).link.mask = s.link.mask ∧ (rideExpiry s).link.arm = s.link.arm ∧
    (rideExpiry s).link.setupTaken = s.link.setupTaken ∧ (rideExpiry s).link.lastRefused = s.link.lastRefused ∧
    (rideExpiry s).link.resetCause = s.link.resetCause ∧ (rideExpiry s).link.readData = s.link.readData := by
  simp only [rideExpiry]
  (repeat' split) <;> simp

end Sys2Proof.Machine
end

