-- ==== Sys2Proof/Laws/FrameMotion.lean ====
section
/-! SUPPORT. What each operation of the Motion Unit and the live pages leaves unchanged: one lemma each. -/

namespace Sys2Proof.Machine

variable (s : State)

@[simp] theorem enterMotionFault_frame (c : MotionCause) :
    (enterMotionFault c s).pending = s.pending ∧ (enterMotionFault c s).powered = s.powered ∧
    (enterMotionFault c s).time = s.time ∧ (enterMotionFault c s).draws = s.draws ∧
    (enterMotionFault c s).clock = s.clock ∧ (enterMotionFault c s).setup = s.setup ∧
    (enterMotionFault c s).src = s.src ∧ (enterMotionFault c s).gauge = s.gauge ∧
    (enterMotionFault c s).bright = s.bright ∧ (enterMotionFault c s).drv = s.drv ∧
    (enterMotionFault c s).hist = s.hist ∧ (enterMotionFault c s).req = s.req ∧
    (enterMotionFault c s).routes = s.routes ∧ (enterMotionFault c s).link.up = s.link.up ∧
    (enterMotionFault c s).link.platformLow = s.link.platformLow ∧
    (enterMotionFault c s).link.memory = s.link.memory ∧ (enterMotionFault c s).link.mask = s.link.mask ∧
    (enterMotionFault c s).link.arm = s.link.arm ∧ (enterMotionFault c s).link.setupTaken = s.link.setupTaken ∧
    (enterMotionFault c s).link.lastRefused = s.link.lastRefused ∧
    (enterMotionFault c s).link.resetCause = s.link.resetCause ∧
    (enterMotionFault c s).link.readData = s.link.readData := by
  simp only [enterMotionFault]
  (repeat' split) <;> simp

@[simp] theorem qualify_frame (r : Candidate) :
    (qualify r s).pending = s.pending ∧ (qualify r s).powered = s.powered ∧ (qualify r s).time = s.time ∧
    (qualify r s).draws = s.draws ∧ (qualify r s).clock = s.clock ∧ (qualify r s).setup = s.setup ∧
    (qualify r s).gauge = s.gauge ∧ (qualify r s).bright = s.bright ∧ (qualify r s).drv = s.drv ∧
    (qualify r s).hist = s.hist ∧ (qualify r s).req = s.req ∧ (qualify r s).routes = s.routes ∧
    (qualify r s).link.up = s.link.up ∧ (qualify r s).link.platformLow = s.link.platformLow ∧
    (qualify r s).link.memory = s.link.memory ∧ (qualify r s).link.mask = s.link.mask ∧
    (qualify r s).link.arm = s.link.arm ∧ (qualify r s).link.setupTaken = s.link.setupTaken ∧
    (qualify r s).link.lastRefused = s.link.lastRefused ∧ (qualify r s).link.resetCause = s.link.resetCause ∧
    (qualify r s).link.readData = s.link.readData := by
  simp only [qualify]
  (repeat' split) <;> simp

@[simp] theorem judgeWatching_frame (v : Option Sample) :
    (judgeWatching v s).pending = s.pending ∧ (judgeWatching v s).powered = s.powered ∧
    (judgeWatching v s).time = s.time ∧ (judgeWatching v s).draws = s.draws ∧
    (judgeWatching v s).clock = s.clock ∧ (judgeWatching v s).setup = s.setup ∧
    (judgeWatching v s).gauge = s.gauge ∧ (judgeWatching v s).bright = s.bright ∧
    (judgeWatching v s).drv = s.drv ∧ (judgeWatching v s).hist = s.hist ∧ (judgeWatching v s).req = s.req ∧
    (judgeWatching v s).routes = s.routes ∧ (judgeWatching v s).link.up = s.link.up ∧
    (judgeWatching v s).link.platformLow = s.link.platformLow ∧ (judgeWatching v s).link.memory = s.link.memory ∧
    (judgeWatching v s).link.mask = s.link.mask ∧ (judgeWatching v s).link.arm = s.link.arm ∧
    (judgeWatching v s).link.setupTaken = s.link.setupTaken ∧
    (judgeWatching v s).link.lastRefused = s.link.lastRefused ∧
    (judgeWatching v s).link.resetCause = s.link.resetCause ∧ (judgeWatching v s).link.readData = s.link.readData := by
  simp only [judgeWatching]
  (repeat' split) <;> simp

@[simp] theorem takeDisarm_frame :
    (takeDisarm s).pending = s.pending ∧ (takeDisarm s).powered = s.powered ∧ (takeDisarm s).time = s.time ∧
    (takeDisarm s).draws = s.draws ∧ (takeDisarm s).clock = s.clock ∧ (takeDisarm s).setup = s.setup ∧
    (takeDisarm s).src = s.src ∧ (takeDisarm s).gauge = s.gauge ∧ (takeDisarm s).bright = s.bright ∧
    (takeDisarm s).drv = s.drv ∧ (takeDisarm s).hist = s.hist ∧ (takeDisarm s).notices = s.notices ∧
    (takeDisarm s).routes = s.routes ∧ (takeDisarm s).pages = s.pages ∧ (takeDisarm s).link.up = s.link.up ∧
    (takeDisarm s).link.platformLow = s.link.platformLow ∧ (takeDisarm s).link.mask = s.link.mask ∧
    (takeDisarm s).link.arm = s.link.arm ∧ (takeDisarm s).link.setupTaken = s.link.setupTaken ∧
    (takeDisarm s).link.lastRefused = s.link.lastRefused ∧ (takeDisarm s).link.resetCause = s.link.resetCause ∧
    (takeDisarm s).link.readData = s.link.readData := by
  simp only [takeDisarm]
  (repeat' split) <;> simp

@[simp] theorem endFall_frame (c : Option MotionCause) :
    (endFall c s).pending = s.pending ∧ (endFall c s).powered = s.powered ∧ (endFall c s).time = s.time ∧
    (endFall c s).draws = s.draws ∧ (endFall c s).clock = s.clock ∧ (endFall c s).setup = s.setup ∧
    (endFall c s).routes = s.routes ∧ (endFall c s).link.up = s.link.up ∧
    (endFall c s).link.platformLow = s.link.platformLow ∧ (endFall c s).link.mask = s.link.mask ∧
    (endFall c s).link.arm = s.link.arm ∧ (endFall c s).link.setupTaken = s.link.setupTaken ∧
    (endFall c s).link.lastRefused = s.link.lastRefused ∧ (endFall c s).link.resetCause = s.link.resetCause ∧
    (endFall c s).link.readData = s.link.readData := by
  have h := holdEnd_frame s
  unfold endFall
  generalize holdEnd s = t at h ⊢
  dsimp only
  (repeat' split) <;> simp [h]

@[simp] theorem enterSettling_frame (o : DropOutcome) (n : BitVec 32) (v : Option Sample) (f : Fall) :
    (enterSettling o n v f s).pending = s.pending ∧ (enterSettling o n v f s).powered = s.powered ∧
    (enterSettling o n v f s).time = s.time ∧ (enterSettling o n v f s).draws = s.draws ∧
    (enterSettling o n v f s).clock = s.clock ∧ (enterSettling o n v f s).setup = s.setup ∧
    (enterSettling o n v f s).src = s.src ∧ (enterSettling o n v f s).gauge = s.gauge ∧
    (enterSettling o n v f s).bright = s.bright ∧ (enterSettling o n v f s).drv = s.drv ∧
    (enterSettling o n v f s).hist = s.hist ∧ (enterSettling o n v f s).req = s.req ∧
    (enterSettling o n v f s).notices = s.notices ∧ (enterSettling o n v f s).routes = s.routes ∧
    (enterSettling o n v f s).link = s.link := by
  simp only [enterSettling]
  (repeat' split) <;> simp

@[simp] theorem loseSensor_frame (f : Fall) :
    (loseSensor f s).pending = s.pending ∧ (loseSensor f s).powered = s.powered ∧
    (loseSensor f s).time = s.time ∧ (loseSensor f s).draws = s.draws ∧ (loseSensor f s).clock = s.clock ∧
    (loseSensor f s).setup = s.setup ∧ (loseSensor f s).routes = s.routes ∧
    (loseSensor f s).link.up = s.link.up ∧ (loseSensor f s).link.platformLow = s.link.platformLow ∧
    (loseSensor f s).link.mask = s.link.mask ∧ (loseSensor f s).link.arm = s.link.arm ∧
    (loseSensor f s).link.setupTaken = s.link.setupTaken ∧
    (loseSensor f s).link.lastRefused = s.link.lastRefused ∧
    (loseSensor f s).link.resetCause = s.link.resetCause ∧ (loseSensor f s).link.readData = s.link.readData := by
  simp only [loseSensor]
  (repeat' split) <;> simp

@[simp] theorem fallOn_frame (v : Option Sample) (f : Fall) :
    (fallOn v f s).pending = s.pending ∧ (fallOn v f s).powered = s.powered ∧ (fallOn v f s).time = s.time ∧
    (fallOn v f s).draws = s.draws ∧ (fallOn v f s).clock = s.clock ∧ (fallOn v f s).setup = s.setup ∧
    (fallOn v f s).src = s.src ∧ (fallOn v f s).gauge = s.gauge ∧ (fallOn v f s).bright = s.bright ∧
    (fallOn v f s).drv = s.drv ∧ (fallOn v f s).hist = s.hist ∧ (fallOn v f s).req = s.req ∧
    (fallOn v f s).notices = s.notices ∧ (fallOn v f s).routes = s.routes ∧ (fallOn v f s).link = s.link := by
  simp only [fallOn]
  (repeat' split) <;> simp

@[simp] theorem judgeGoodFalling_frame (v : Sample) (f : Fall) :
    (judgeGoodFalling v f s).pending = s.pending ∧ (judgeGoodFalling v f s).powered = s.powered ∧
    (judgeGoodFalling v f s).time = s.time ∧ (judgeGoodFalling v f s).draws = s.draws ∧
    (judgeGoodFalling v f s).clock = s.clock ∧ (judgeGoodFalling v f s).setup = s.setup ∧
    (judgeGoodFalling v f s).src = s.src ∧ (judgeGoodFalling v f s).gauge = s.gauge ∧
    (judgeGoodFalling v f s).bright = s.bright ∧ (judgeGoodFalling v f s).drv = s.drv ∧
    (judgeGoodFalling v f s).hist = s.hist ∧ (judgeGoodFalling v f s).req = s.req ∧
    (judgeGoodFalling v f s).notices = s.notices ∧ (judgeGoodFalling v f s).routes = s.routes ∧
    (judgeGoodFalling v f s).link = s.link := by
  simp only [judgeGoodFalling]
  (repeat' split) <;> simp

@[simp] theorem judgeFalling_frame (v : Option Sample) :
    (judgeFalling v s).pending = s.pending ∧ (judgeFalling v s).powered = s.powered ∧
    (judgeFalling v s).time = s.time ∧ (judgeFalling v s).draws = s.draws ∧ (judgeFalling v s).clock = s.clock ∧
    (judgeFalling v s).setup = s.setup ∧ (judgeFalling v s).routes = s.routes ∧
    (judgeFalling v s).link.up = s.link.up ∧ (judgeFalling v s).link.platformLow = s.link.platformLow ∧
    (judgeFalling v s).link.mask = s.link.mask ∧ (judgeFalling v s).link.arm = s.link.arm ∧
    (judgeFalling v s).link.setupTaken = s.link.setupTaken ∧
    (judgeFalling v s).link.lastRefused = s.link.lastRefused ∧
    (judgeFalling v s).link.resetCause = s.link.resetCause ∧ (judgeFalling v s).link.readData = s.link.readData := by
  simp only [judgeFalling]
  (repeat' split) <;> simp

@[simp] theorem judgeSettling_frame (v : Option Sample) :
    (judgeSettling v s).pending = s.pending ∧ (judgeSettling v s).powered = s.powered ∧
    (judgeSettling v s).time = s.time ∧ (judgeSettling v s).draws = s.draws ∧
    (judgeSettling v s).clock = s.clock ∧ (judgeSettling v s).setup = s.setup ∧ (judgeSettling v s).src = s.src ∧
    (judgeSettling v s).gauge = s.gauge ∧ (judgeSettling v s).bright = s.bright ∧
    (judgeSettling v s).drv = s.drv ∧ (judgeSettling v s).hist = s.hist ∧ (judgeSettling v s).req = s.req ∧
    (judgeSettling v s).notices = s.notices ∧ (judgeSettling v s).routes = s.routes ∧
    (judgeSettling v s).link = s.link ∧ (judgeSettling v s).pages = s.pages := by
  simp only [judgeSettling]
  (repeat' split) <;> simp

@[simp] theorem settleEnd_frame :
    (settleEnd s).pending = s.pending ∧ (settleEnd s).powered = s.powered ∧ (settleEnd s).time = s.time ∧
    (settleEnd s).draws = s.draws ∧ (settleEnd s).clock = s.clock ∧ (settleEnd s).setup = s.setup ∧
    (settleEnd s).routes = s.routes ∧ (settleEnd s).link.up = s.link.up ∧
    (settleEnd s).link.platformLow = s.link.platformLow ∧ (settleEnd s).link.mask = s.link.mask ∧
    (settleEnd s).link.arm = s.link.arm ∧ (settleEnd s).link.setupTaken = s.link.setupTaken ∧
    (settleEnd s).link.lastRefused = s.link.lastRefused ∧ (settleEnd s).link.resetCause = s.link.resetCause ∧
    (settleEnd s).link.readData = s.link.readData := by
  simp only [settleEnd]
  (repeat' split) <;> simp

@[simp] theorem judgeFault_frame :
    (judgeFault s).pending = s.pending ∧ (judgeFault s).powered = s.powered ∧ (judgeFault s).time = s.time ∧
    (judgeFault s).draws = s.draws ∧ (judgeFault s).clock = s.clock ∧ (judgeFault s).setup = s.setup ∧
    (judgeFault s).src = s.src ∧ (judgeFault s).gauge = s.gauge ∧ (judgeFault s).bright = s.bright ∧
    (judgeFault s).drv = s.drv ∧ (judgeFault s).hist = s.hist ∧ (judgeFault s).req = s.req ∧
    (judgeFault s).routes = s.routes ∧ (judgeFault s).link.up = s.link.up ∧
    (judgeFault s).link.platformLow = s.link.platformLow ∧ (judgeFault s).link.memory = s.link.memory ∧
    (judgeFault s).link.mask = s.link.mask ∧ (judgeFault s).link.arm = s.link.arm ∧
    (judgeFault s).link.setupTaken = s.link.setupTaken ∧ (judgeFault s).link.lastRefused = s.link.lastRefused ∧
    (judgeFault s).link.resetCause = s.link.resetCause ∧ (judgeFault s).link.readData = s.link.readData := by
  simp only [judgeFault]
  (repeat' split) <;> simp

@[simp] theorem judgeSample_frame (v : Option Sample) :
    (judgeSample v s).pending = s.pending ∧ (judgeSample v s).powered = s.powered ∧
    (judgeSample v s).time = s.time ∧ (judgeSample v s).draws = s.draws ∧ (judgeSample v s).clock = s.clock ∧
    (judgeSample v s).setup = s.setup ∧ (judgeSample v s).routes = s.routes ∧
    (judgeSample v s).link.up = s.link.up ∧ (judgeSample v s).link.platformLow = s.link.platformLow ∧
    (judgeSample v s).link.mask = s.link.mask ∧ (judgeSample v s).link.arm = s.link.arm ∧
    (judgeSample v s).link.setupTaken = s.link.setupTaken ∧
    (judgeSample v s).link.lastRefused = s.link.lastRefused ∧
    (judgeSample v s).link.resetCause = s.link.resetCause ∧ (judgeSample v s).link.readData = s.link.readData := by
  simp only [judgeSample]
  (repeat' split) <;> simp

@[simp] theorem sampleSlot_frame (r : SlotReading) :
    (sampleSlot r s).pending = s.pending ∧ (sampleSlot r s).powered = s.powered ∧
    (sampleSlot r s).time = s.time ∧ (sampleSlot r s).draws = s.draws ∧ (sampleSlot r s).clock = s.clock ∧
    (sampleSlot r s).setup = s.setup ∧ (sampleSlot r s).routes = s.routes ∧
    (sampleSlot r s).link.up = s.link.up ∧ (sampleSlot r s).link.platformLow = s.link.platformLow ∧
    (sampleSlot r s).link.mask = s.link.mask ∧ (sampleSlot r s).link.arm = s.link.arm ∧
    (sampleSlot r s).link.setupTaken = s.link.setupTaken ∧
    (sampleSlot r s).link.lastRefused = s.link.lastRefused ∧
    (sampleSlot r s).link.resetCause = s.link.resetCause ∧ (sampleSlot r s).link.readData = s.link.readData := by
  simp only [sampleSlot]
  (repeat' split) <;> simp

@[simp] theorem linkRestart_frame :
    (linkRestart s).pending = s.pending ∧ (linkRestart s).powered = s.powered ∧ (linkRestart s).time = s.time ∧
    (linkRestart s).draws = s.draws ∧ (linkRestart s).clock = s.clock ∧ (linkRestart s).setup = s.setup ∧
    (linkRestart s).src = s.src ∧ (linkRestart s).gauge = s.gauge ∧ (linkRestart s).bright = s.bright ∧
    (linkRestart s).drv = s.drv ∧ (linkRestart s).hist = s.hist ∧ (linkRestart s).req = s.req ∧
    (linkRestart s).notices = s.notices ∧ (linkRestart s).routes = s.routes ∧ (linkRestart s).link = s.link ∧
    (linkRestart s).pages = s.pages := by
  simp only [linkRestart]
  (repeat' split) <;> simp

@[simp] theorem completeFall_frame (f : Fall) (l : List Interruption) :
    (completeFall f l s).pending = s.pending ∧ (completeFall f l s).powered = s.powered ∧
    (completeFall f l s).time = s.time ∧ (completeFall f l s).draws = s.draws ∧
    (completeFall f l s).clock = s.clock ∧ (completeFall f l s).setup = s.setup ∧
    (completeFall f l s).src = s.src ∧ (completeFall f l s).gauge = s.gauge ∧
    (completeFall f l s).bright = s.bright ∧ (completeFall f l s).routes = s.routes ∧
    (completeFall f l s).link.up = s.link.up ∧ (completeFall f l s).link.platformLow = s.link.platformLow ∧
    (completeFall f l s).link.mask = s.link.mask ∧ (completeFall f l s).link.arm = s.link.arm ∧
    (completeFall f l s).link.setupTaken = s.link.setupTaken ∧
    (completeFall f l s).link.lastRefused = s.link.lastRefused ∧
    (completeFall f l s).link.resetCause = s.link.resetCause ∧
    (completeFall f l s).link.readData = s.link.readData := by
  simp only [completeFall]
  (repeat' split) <;> simp

@[simp] theorem listArrival_frame :
    (listArrival s).pending = s.pending ∧ (listArrival s).powered = s.powered ∧ (listArrival s).time = s.time ∧
    (listArrival s).draws = s.draws ∧ (listArrival s).clock = s.clock ∧ (listArrival s).setup = s.setup ∧
    (listArrival s).gauge = s.gauge ∧ (listArrival s).bright = s.bright ∧ (listArrival s).routes = s.routes ∧
    (listArrival s).link.up = s.link.up ∧ (listArrival s).link.platformLow = s.link.platformLow ∧
    (listArrival s).link.mask = s.link.mask ∧ (listArrival s).link.arm = s.link.arm ∧
    (listArrival s).link.setupTaken = s.link.setupTaken ∧ (listArrival s).link.lastRefused = s.link.lastRefused ∧
    (listArrival s).link.resetCause = s.link.resetCause ∧ (listArrival s).link.readData = s.link.readData := by
  simp only [listArrival]
  (repeat' split) <;> simp

@[simp] theorem parkExpiry_frame :
    (parkExpiry s).pending = s.pending ∧ (parkExpiry s).powered = s.powered ∧ (parkExpiry s).time = s.time ∧
    (parkExpiry s).draws = s.draws ∧ (parkExpiry s).clock = s.clock ∧ (parkExpiry s).setup = s.setup ∧
    (parkExpiry s).src = s.src ∧ (parkExpiry s).gauge = s.gauge ∧ (parkExpiry s).bright = s.bright ∧
    (parkExpiry s).drv = s.drv ∧ (parkExpiry s).hist = s.hist ∧ (parkExpiry s).req = s.req ∧
    (parkExpiry s).notices = s.notices ∧ (parkExpiry s).routes = s.routes ∧ (parkExpiry s).link = s.link ∧
    (parkExpiry s).pages = s.pages := by
  simp only [parkExpiry]
  (repeat' split) <;> simp

@[simp] theorem beginUpdate_frame (p : PageId) :
    (beginUpdate p s).pending = s.pending ∧ (beginUpdate p s).powered = s.powered ∧
    (beginUpdate p s).time = s.time ∧ (beginUpdate p s).draws = s.draws ∧ (beginUpdate p s).clock = s.clock ∧
    (beginUpdate p s).setup = s.setup ∧ (beginUpdate p s).src = s.src ∧ (beginUpdate p s).gauge = s.gauge ∧
    (beginUpdate p s).bright = s.bright ∧ (beginUpdate p s).drv = s.drv ∧ (beginUpdate p s).motion = s.motion ∧
    (beginUpdate p s).hist = s.hist ∧ (beginUpdate p s).req = s.req ∧ (beginUpdate p s).notices = s.notices ∧
    (beginUpdate p s).routes = s.routes ∧ (beginUpdate p s).link.up = s.link.up ∧
    (beginUpdate p s).link.platformLow = s.link.platformLow ∧ (beginUpdate p s).link.mask = s.link.mask ∧
    (beginUpdate p s).link.arm = s.link.arm ∧ (beginUpdate p s).link.setupTaken = s.link.setupTaken ∧
    (beginUpdate p s).link.lastRefused = s.link.lastRefused ∧
    (beginUpdate p s).link.resetCause = s.link.resetCause ∧ (beginUpdate p s).link.readData = s.link.readData ∧
    (beginUpdate p s).link.attn = s.link.attn := by
  simp only [beginUpdate]
  (repeat' split) <;> simp

@[simp] theorem flushPage_frame (p : PageId) :
    (flushPage p s).pending = s.pending ∧ (flushPage p s).powered = s.powered ∧ (flushPage p s).time = s.time ∧
    (flushPage p s).draws = s.draws ∧ (flushPage p s).clock = s.clock ∧ (flushPage p s).setup = s.setup ∧
    (flushPage p s).src = s.src ∧ (flushPage p s).gauge = s.gauge ∧ (flushPage p s).bright = s.bright ∧
    (flushPage p s).drv = s.drv ∧ (flushPage p s).motion = s.motion ∧ (flushPage p s).hist = s.hist ∧
    (flushPage p s).req = s.req ∧ (flushPage p s).notices = s.notices ∧ (flushPage p s).routes = s.routes ∧
    (flushPage p s).link.up = s.link.up ∧ (flushPage p s).link.platformLow = s.link.platformLow ∧
    (flushPage p s).link.mask = s.link.mask ∧ (flushPage p s).link.arm = s.link.arm ∧
    (flushPage p s).link.setupTaken = s.link.setupTaken ∧ (flushPage p s).link.lastRefused = s.link.lastRefused ∧
    (flushPage p s).link.resetCause = s.link.resetCause ∧ (flushPage p s).link.readData = s.link.readData ∧
    (flushPage p s).link.attn = s.link.attn := by
  simp only [flushPage]
  (repeat' split) <;> simp

@[simp] theorem flushPages_frame :
    (flushPages s).pending = s.pending ∧ (flushPages s).powered = s.powered ∧ (flushPages s).time = s.time ∧
    (flushPages s).draws = s.draws ∧ (flushPages s).clock = s.clock ∧ (flushPages s).setup = s.setup ∧
    (flushPages s).src = s.src ∧ (flushPages s).gauge = s.gauge ∧ (flushPages s).bright = s.bright ∧
    (flushPages s).drv = s.drv ∧ (flushPages s).motion = s.motion ∧ (flushPages s).hist = s.hist ∧
    (flushPages s).req = s.req ∧ (flushPages s).notices = s.notices ∧ (flushPages s).routes = s.routes ∧
    (flushPages s).link.up = s.link.up ∧ (flushPages s).link.platformLow = s.link.platformLow ∧
    (flushPages s).link.mask = s.link.mask ∧ (flushPages s).link.arm = s.link.arm ∧
    (flushPages s).link.setupTaken = s.link.setupTaken ∧ (flushPages s).link.lastRefused = s.link.lastRefused ∧
    (flushPages s).link.resetCause = s.link.resetCause ∧ (flushPages s).link.readData = s.link.readData ∧
    (flushPages s).link.attn = s.link.attn := by
  simp only [flushPages]
  (repeat' split) <;> simp

@[simp] theorem endUpdate_frame (p : PageId) :
    (endUpdate p s).pending = s.pending ∧ (endUpdate p s).powered = s.powered ∧ (endUpdate p s).time = s.time ∧
    (endUpdate p s).draws = s.draws ∧ (endUpdate p s).clock = s.clock ∧ (endUpdate p s).setup = s.setup ∧
    (endUpdate p s).src = s.src ∧ (endUpdate p s).gauge = s.gauge ∧ (endUpdate p s).bright = s.bright ∧
    (endUpdate p s).drv = s.drv ∧ (endUpdate p s).motion = s.motion ∧ (endUpdate p s).hist = s.hist ∧
    (endUpdate p s).req = s.req ∧ (endUpdate p s).notices = s.notices ∧ (endUpdate p s).routes = s.routes ∧
    (endUpdate p s).link.up = s.link.up ∧ (endUpdate p s).link.platformLow = s.link.platformLow ∧
    (endUpdate p s).link.mask = s.link.mask ∧ (endUpdate p s).link.arm = s.link.arm ∧
    (endUpdate p s).link.setupTaken = s.link.setupTaken ∧ (endUpdate p s).link.lastRefused = s.link.lastRefused ∧
    (endUpdate p s).link.resetCause = s.link.resetCause ∧ (endUpdate p s).link.readData = s.link.readData ∧
    (endUpdate p s).link.attn = s.link.attn := by
  simp only [endUpdate]
  (repeat' split) <;> simp

@[simp] theorem periodicUpdate_frame (p : PageId) :
    (periodicUpdate p s).pending = s.pending ∧ (periodicUpdate p s).powered = s.powered ∧
    (periodicUpdate p s).time = s.time ∧ (periodicUpdate p s).draws = s.draws ∧
    (periodicUpdate p s).clock = s.clock ∧ (periodicUpdate p s).setup = s.setup ∧
    (periodicUpdate p s).src = s.src ∧ (periodicUpdate p s).gauge = s.gauge ∧
    (periodicUpdate p s).bright = s.bright ∧ (periodicUpdate p s).drv = s.drv ∧
    (periodicUpdate p s).motion = s.motion ∧ (periodicUpdate p s).hist = s.hist ∧
    (periodicUpdate p s).req = s.req ∧ (periodicUpdate p s).notices = s.notices ∧
    (periodicUpdate p s).routes = s.routes ∧ (periodicUpdate p s).link = s.link := by
  simp only [periodicUpdate]
  (repeat' split) <;> simp

@[simp] theorem advanceClock_frame :
    (advanceClock s).pending = s.pending ∧ (advanceClock s).powered = s.powered ∧
    (advanceClock s).time = s.time ∧ (advanceClock s).draws = s.draws ∧ (advanceClock s).setup = s.setup ∧
    (advanceClock s).src = s.src ∧ (advanceClock s).gauge = s.gauge ∧ (advanceClock s).bright = s.bright ∧
    (advanceClock s).drv = s.drv ∧ (advanceClock s).motion = s.motion ∧ (advanceClock s).hist = s.hist ∧
    (advanceClock s).req = s.req ∧ (advanceClock s).notices = s.notices ∧ (advanceClock s).routes = s.routes ∧
    (advanceClock s).link = s.link := by
  simp only [advanceClock]
  (repeat' split) <;> simp

end Sys2Proof.Machine
end

