-- ==== Sys2Proof/Laws/FrameRequests.lean ====
section
/-! SUPPORT. What each operation of the Request Engine and of the end of an event leaves unchanged: one lemma each. -/

namespace Sys2Proof.Machine

variable (s : State)

@[simp] theorem donePower_frame (r : ResultCode) (f : Nat) (d : List Byte) :
    (donePower r f d s).pending = s.pending ∧ (donePower r f d s).powered = s.powered ∧
    (donePower r f d s).time = s.time ∧ (donePower r f d s).draws = s.draws ∧
    (donePower r f d s).clock = s.clock ∧ (donePower r f d s).setup = s.setup ∧ (donePower r f d s).src = s.src ∧
    (donePower r f d s).gauge = s.gauge ∧ (donePower r f d s).bright = s.bright ∧
    (donePower r f d s).drv = s.drv ∧ (donePower r f d s).motion = s.motion ∧ (donePower r f d s).hist = s.hist ∧
    (donePower r f d s).notices = s.notices ∧ (donePower r f d s).routes = s.routes ∧
    (donePower r f d s).pages = s.pages ∧ (donePower r f d s).link.up = s.link.up ∧
    (donePower r f d s).link.platformLow = s.link.platformLow ∧ (donePower r f d s).link.mask = s.link.mask ∧
    (donePower r f d s).link.arm = s.link.arm ∧ (donePower r f d s).link.setupTaken = s.link.setupTaken ∧
    (donePower r f d s).link.lastRefused = s.link.lastRefused ∧
    (donePower r f d s).link.resetCause = s.link.resetCause ∧ (donePower r f d s).link.readData = s.link.readData := by
  simp only [donePower]
  (repeat' split) <;> simp

@[simp] theorem serveSetSourcePolicy_frame (e : EntryId) :
    (serveSetSourcePolicy e s).pending = s.pending ∧ (serveSetSourcePolicy e s).powered = s.powered ∧
    (serveSetSourcePolicy e s).time = s.time ∧ (serveSetSourcePolicy e s).draws = s.draws ∧
    (serveSetSourcePolicy e s).clock = s.clock ∧ (serveSetSourcePolicy e s).setup = s.setup ∧
    (serveSetSourcePolicy e s).motion = s.motion ∧ (serveSetSourcePolicy e s).hist = s.hist ∧
    (serveSetSourcePolicy e s).routes = s.routes ∧ (serveSetSourcePolicy e s).link.up = s.link.up ∧
    (serveSetSourcePolicy e s).link.platformLow = s.link.platformLow ∧
    (serveSetSourcePolicy e s).link.mask = s.link.mask ∧ (serveSetSourcePolicy e s).link.arm = s.link.arm ∧
    (serveSetSourcePolicy e s).link.setupTaken = s.link.setupTaken ∧
    (serveSetSourcePolicy e s).link.lastRefused = s.link.lastRefused ∧
    (serveSetSourcePolicy e s).link.resetCause = s.link.resetCause ∧
    (serveSetSourcePolicy e s).link.readData = s.link.readData := by
  simp only [serveSetSourcePolicy]
  (repeat' split) <;> simp

@[simp] theorem serveSetPackWarn_frame (e : EntryId) :
    (serveSetPackWarn e s).pending = s.pending ∧ (serveSetPackWarn e s).powered = s.powered ∧
    (serveSetPackWarn e s).time = s.time ∧ (serveSetPackWarn e s).draws = s.draws ∧
    (serveSetPackWarn e s).clock = s.clock ∧ (serveSetPackWarn e s).setup = s.setup ∧
    (serveSetPackWarn e s).gauge = s.gauge ∧ (serveSetPackWarn e s).bright = s.bright ∧
    (serveSetPackWarn e s).drv = s.drv ∧ (serveSetPackWarn e s).motion = s.motion ∧
    (serveSetPackWarn e s).hist = s.hist ∧ (serveSetPackWarn e s).notices = s.notices ∧
    (serveSetPackWarn e s).routes = s.routes ∧ (serveSetPackWarn e s).pages = s.pages ∧
    (serveSetPackWarn e s).link.up = s.link.up ∧ (serveSetPackWarn e s).link.platformLow = s.link.platformLow ∧
    (serveSetPackWarn e s).link.mask = s.link.mask ∧ (serveSetPackWarn e s).link.arm = s.link.arm ∧
    (serveSetPackWarn e s).link.setupTaken = s.link.setupTaken ∧
    (serveSetPackWarn e s).link.lastRefused = s.link.lastRefused ∧
    (serveSetPackWarn e s).link.resetCause = s.link.resetCause ∧
    (serveSetPackWarn e s).link.readData = s.link.readData := by
  simp only [serveSetPackWarn]
  (repeat' split) <;> simp

@[simp] theorem pendPreparation_frame (b : BayId) (e : EntryId) :
    (pendPreparation b e s).pending = s.pending ∧ (pendPreparation b e s).powered = s.powered ∧
    (pendPreparation b e s).time = s.time ∧ (pendPreparation b e s).draws = s.draws ∧
    (pendPreparation b e s).clock = s.clock ∧ (pendPreparation b e s).setup = s.setup ∧
    (pendPreparation b e s).gauge = s.gauge ∧ (pendPreparation b e s).bright = s.bright ∧
    (pendPreparation b e s).drv = s.drv ∧ (pendPreparation b e s).motion = s.motion ∧
    (pendPreparation b e s).hist = s.hist ∧ (pendPreparation b e s).req = s.req ∧
    (pendPreparation b e s).notices = s.notices ∧ (pendPreparation b e s).routes = s.routes ∧
    (pendPreparation b e s).link = s.link ∧ (pendPreparation b e s).pages = s.pages := by
  simp only [pendPreparation]
  (repeat' split) <;> simp

@[simp] theorem prepareBay_frame (b : BayId) (e : EntryId) :
    (prepareBay b e s).pending = s.pending ∧ (prepareBay b e s).powered = s.powered ∧
    (prepareBay b e s).time = s.time ∧ (prepareBay b e s).draws = s.draws ∧ (prepareBay b e s).clock = s.clock ∧
    (prepareBay b e s).setup = s.setup ∧ (prepareBay b e s).motion = s.motion ∧
    (prepareBay b e s).hist = s.hist ∧ (prepareBay b e s).routes = s.routes ∧
    (prepareBay b e s).link.up = s.link.up ∧ (prepareBay b e s).link.platformLow = s.link.platformLow ∧
    (prepareBay b e s).link.mask = s.link.mask ∧ (prepareBay b e s).link.arm = s.link.arm ∧
    (prepareBay b e s).link.setupTaken = s.link.setupTaken ∧
    (prepareBay b e s).link.lastRefused = s.link.lastRefused ∧
    (prepareBay b e s).link.resetCause = s.link.resetCause ∧ (prepareBay b e s).link.readData = s.link.readData := by
  simp only [prepareBay]
  (repeat' split) <;> simp

@[simp] theorem serveSwapPrepare_frame (e : EntryId) :
    (serveSwapPrepare e s).pending = s.pending ∧ (serveSwapPrepare e s).powered = s.powered ∧
    (serveSwapPrepare e s).time = s.time ∧ (serveSwapPrepare e s).draws = s.draws ∧
    (serveSwapPrepare e s).clock = s.clock ∧ (serveSwapPrepare e s).setup = s.setup ∧
    (serveSwapPrepare e s).motion = s.motion ∧ (serveSwapPrepare e s).hist = s.hist ∧
    (serveSwapPrepare e s).routes = s.routes ∧ (serveSwapPrepare e s).link.up = s.link.up ∧
    (serveSwapPrepare e s).link.platformLow = s.link.platformLow ∧
    (serveSwapPrepare e s).link.mask = s.link.mask ∧ (serveSwapPrepare e s).link.arm = s.link.arm ∧
    (serveSwapPrepare e s).link.setupTaken = s.link.setupTaken ∧
    (serveSwapPrepare e s).link.lastRefused = s.link.lastRefused ∧
    (serveSwapPrepare e s).link.resetCause = s.link.resetCause ∧
    (serveSwapPrepare e s).link.readData = s.link.readData := by
  simp only [serveSwapPrepare]
  (repeat' split) <;> simp

@[simp] theorem serveSwapAbort_frame (e : EntryId) :
    (serveSwapAbort e s).pending = s.pending ∧ (serveSwapAbort e s).powered = s.powered ∧
    (serveSwapAbort e s).time = s.time ∧ (serveSwapAbort e s).draws = s.draws ∧
    (serveSwapAbort e s).clock = s.clock ∧ (serveSwapAbort e s).setup = s.setup ∧
    (serveSwapAbort e s).motion = s.motion ∧ (serveSwapAbort e s).hist = s.hist ∧
    (serveSwapAbort e s).routes = s.routes ∧ (serveSwapAbort e s).link.up = s.link.up ∧
    (serveSwapAbort e s).link.platformLow = s.link.platformLow ∧ (serveSwapAbort e s).link.mask = s.link.mask ∧
    (serveSwapAbort e s).link.arm = s.link.arm ∧ (serveSwapAbort e s).link.setupTaken = s.link.setupTaken ∧
    (serveSwapAbort e s).link.lastRefused = s.link.lastRefused ∧
    (serveSwapAbort e s).link.resetCause = s.link.resetCause ∧
    (serveSwapAbort e s).link.readData = s.link.readData := by
  simp only [serveSwapAbort]
  (repeat' split) <;> simp

@[simp] theorem setFull_frame (b : BayId) (n : Nat) :
    (setFull b n s).pending = s.pending ∧ (setFull b n s).powered = s.powered ∧ (setFull b n s).time = s.time ∧
    (setFull b n s).draws = s.draws ∧ (setFull b n s).clock = s.clock ∧ (setFull b n s).setup = s.setup ∧
    (setFull b n s).motion = s.motion ∧ (setFull b n s).hist = s.hist ∧ (setFull b n s).req = s.req ∧
    (setFull b n s).routes = s.routes ∧ (setFull b n s).link.up = s.link.up ∧
    (setFull b n s).link.platformLow = s.link.platformLow ∧ (setFull b n s).link.memory = s.link.memory ∧
    (setFull b n s).link.mask = s.link.mask ∧ (setFull b n s).link.arm = s.link.arm ∧
    (setFull b n s).link.setupTaken = s.link.setupTaken ∧ (setFull b n s).link.lastRefused = s.link.lastRefused ∧
    (setFull b n s).link.resetCause = s.link.resetCause ∧ (setFull b n s).link.readData = s.link.readData := by
  simp only [setFull]
  (repeat' split) <;> simp

@[simp] theorem servePackSetCapacity_frame (e : EntryId) :
    (servePackSetCapacity e s).pending = s.pending ∧ (servePackSetCapacity e s).powered = s.powered ∧
    (servePackSetCapacity e s).time = s.time ∧ (servePackSetCapacity e s).draws = s.draws ∧
    (servePackSetCapacity e s).clock = s.clock ∧ (servePackSetCapacity e s).setup = s.setup ∧
    (servePackSetCapacity e s).motion = s.motion ∧ (servePackSetCapacity e s).hist = s.hist ∧
    (servePackSetCapacity e s).routes = s.routes ∧ (servePackSetCapacity e s).link.up = s.link.up ∧
    (servePackSetCapacity e s).link.platformLow = s.link.platformLow ∧
    (servePackSetCapacity e s).link.mask = s.link.mask ∧ (servePackSetCapacity e s).link.arm = s.link.arm ∧
    (servePackSetCapacity e s).link.setupTaken = s.link.setupTaken ∧
    (servePackSetCapacity e s).link.lastRefused = s.link.lastRefused ∧
    (servePackSetCapacity e s).link.resetCause = s.link.resetCause ∧
    (servePackSetCapacity e s).link.readData = s.link.readData := by
  simp only [servePackSetCapacity]
  (repeat' split) <;> simp

@[simp] theorem doneDisplay_frame (r : ResultCode) (f : Nat) (d : List Byte) :
    (doneDisplay r f d s).pending = s.pending ∧ (doneDisplay r f d s).powered = s.powered ∧
    (doneDisplay r f d s).time = s.time ∧ (doneDisplay r f d s).draws = s.draws ∧
    (doneDisplay r f d s).clock = s.clock ∧ (doneDisplay r f d s).setup = s.setup ∧
    (doneDisplay r f d s).src = s.src ∧ (doneDisplay r f d s).gauge = s.gauge ∧
    (doneDisplay r f d s).bright = s.bright ∧ (doneDisplay r f d s).drv = s.drv ∧
    (doneDisplay r f d s).motion = s.motion ∧ (doneDisplay r f d s).hist = s.hist ∧
    (doneDisplay r f d s).notices = s.notices ∧ (doneDisplay r f d s).routes = s.routes ∧
    (doneDisplay r f d s).pages = s.pages ∧ (doneDisplay r f d s).link.up = s.link.up ∧
    (doneDisplay r f d s).link.platformLow = s.link.platformLow ∧ (doneDisplay r f d s).link.mask = s.link.mask ∧
    (doneDisplay r f d s).link.arm = s.link.arm ∧ (doneDisplay r f d s).link.setupTaken = s.link.setupTaken ∧
    (doneDisplay r f d s).link.lastRefused = s.link.lastRefused ∧
    (doneDisplay r f d s).link.resetCause = s.link.resetCause ∧
    (doneDisplay r f d s).link.readData = s.link.readData := by
  simp only [doneDisplay]
  (repeat' split) <;> simp

@[simp] theorem serveInstallCurve_frame :
    (serveInstallCurve s).pending = s.pending ∧ (serveInstallCurve s).powered = s.powered ∧
    (serveInstallCurve s).time = s.time ∧ (serveInstallCurve s).draws = s.draws ∧
    (serveInstallCurve s).clock = s.clock ∧ (serveInstallCurve s).setup = s.setup ∧
    (serveInstallCurve s).src = s.src ∧ (serveInstallCurve s).gauge = s.gauge ∧
    (serveInstallCurve s).drv = s.drv ∧ (serveInstallCurve s).motion = s.motion ∧
    (serveInstallCurve s).hist = s.hist ∧ (serveInstallCurve s).notices = s.notices ∧
    (serveInstallCurve s).routes = s.routes ∧ (serveInstallCurve s).pages = s.pages ∧
    (serveInstallCurve s).link.up = s.link.up ∧ (serveInstallCurve s).link.platformLow = s.link.platformLow ∧
    (serveInstallCurve s).link.mask = s.link.mask ∧ (serveInstallCurve s).link.arm = s.link.arm ∧
    (serveInstallCurve s).link.setupTaken = s.link.setupTaken ∧
    (serveInstallCurve s).link.lastRefused = s.link.lastRefused ∧
    (serveInstallCurve s).link.resetCause = s.link.resetCause ∧
    (serveInstallCurve s).link.readData = s.link.readData := by
  simp only [serveInstallCurve]
  (repeat' split) <;> simp

@[simp] theorem serveSetBrightness_frame (e : EntryId) :
    (serveSetBrightness e s).pending = s.pending ∧ (serveSetBrightness e s).powered = s.powered ∧
    (serveSetBrightness e s).time = s.time ∧ (serveSetBrightness e s).draws = s.draws ∧
    (serveSetBrightness e s).clock = s.clock ∧ (serveSetBrightness e s).setup = s.setup ∧
    (serveSetBrightness e s).src = s.src ∧ (serveSetBrightness e s).gauge = s.gauge ∧
    (serveSetBrightness e s).motion = s.motion ∧ (serveSetBrightness e s).hist = s.hist ∧
    (serveSetBrightness e s).routes = s.routes ∧ (serveSetBrightness e s).link.up = s.link.up ∧
    (serveSetBrightness e s).link.platformLow = s.link.platformLow ∧
    (serveSetBrightness e s).link.mask = s.link.mask ∧ (serveSetBrightness e s).link.arm = s.link.arm ∧
    (serveSetBrightness e s).link.setupTaken = s.link.setupTaken ∧
    (serveSetBrightness e s).link.lastRefused = s.link.lastRefused ∧
    (serveSetBrightness e s).link.resetCause = s.link.resetCause ∧
    (serveSetBrightness e s).link.readData = s.link.readData := by
  simp only [serveSetBrightness]
  (repeat' split) <;> simp

@[simp] theorem serveSetCeilings_frame (e : EntryId) :
    (serveSetCeilings e s).pending = s.pending ∧ (serveSetCeilings e s).powered = s.powered ∧
    (serveSetCeilings e s).time = s.time ∧ (serveSetCeilings e s).draws = s.draws ∧
    (serveSetCeilings e s).clock = s.clock ∧ (serveSetCeilings e s).setup = s.setup ∧
    (serveSetCeilings e s).src = s.src ∧ (serveSetCeilings e s).gauge = s.gauge ∧
    (serveSetCeilings e s).motion = s.motion ∧ (serveSetCeilings e s).hist = s.hist ∧
    (serveSetCeilings e s).routes = s.routes ∧ (serveSetCeilings e s).link.up = s.link.up ∧
    (serveSetCeilings e s).link.platformLow = s.link.platformLow ∧
    (serveSetCeilings e s).link.mask = s.link.mask ∧ (serveSetCeilings e s).link.arm = s.link.arm ∧
    (serveSetCeilings e s).link.setupTaken = s.link.setupTaken ∧
    (serveSetCeilings e s).link.lastRefused = s.link.lastRefused ∧
    (serveSetCeilings e s).link.resetCause = s.link.resetCause ∧
    (serveSetCeilings e s).link.readData = s.link.readData := by
  simp only [serveSetCeilings]
  (repeat' split) <;> simp

@[simp] theorem serveSetFilter_frame (e : EntryId) :
    (serveSetFilter e s).pending = s.pending ∧ (serveSetFilter e s).powered = s.powered ∧
    (serveSetFilter e s).time = s.time ∧ (serveSetFilter e s).draws = s.draws ∧
    (serveSetFilter e s).clock = s.clock ∧ (serveSetFilter e s).setup = s.setup ∧
    (serveSetFilter e s).src = s.src ∧ (serveSetFilter e s).gauge = s.gauge ∧ (serveSetFilter e s).drv = s.drv ∧
    (serveSetFilter e s).motion = s.motion ∧ (serveSetFilter e s).hist = s.hist ∧
    (serveSetFilter e s).notices = s.notices ∧ (serveSetFilter e s).routes = s.routes ∧
    (serveSetFilter e s).pages = s.pages ∧ (serveSetFilter e s).link.up = s.link.up ∧
    (serveSetFilter e s).link.platformLow = s.link.platformLow ∧ (serveSetFilter e s).link.mask = s.link.mask ∧
    (serveSetFilter e s).link.arm = s.link.arm ∧ (serveSetFilter e s).link.setupTaken = s.link.setupTaken ∧
    (serveSetFilter e s).link.lastRefused = s.link.lastRefused ∧
    (serveSetFilter e s).link.resetCause = s.link.resetCause ∧
    (serveSetFilter e s).link.readData = s.link.readData := by
  simp only [serveSetFilter]
  (repeat' split) <;> simp

@[simp] theorem serveIndicatorPulse_frame (e : EntryId) :
    (serveIndicatorPulse e s).pending = s.pending ∧ (serveIndicatorPulse e s).powered = s.powered ∧
    (serveIndicatorPulse e s).time = s.time ∧ (serveIndicatorPulse e s).draws = s.draws ∧
    (serveIndicatorPulse e s).clock = s.clock ∧ (serveIndicatorPulse e s).setup = s.setup ∧
    (serveIndicatorPulse e s).src = s.src ∧ (serveIndicatorPulse e s).gauge = s.gauge ∧
    (serveIndicatorPulse e s).bright = s.bright ∧ (serveIndicatorPulse e s).motion = s.motion ∧
    (serveIndicatorPulse e s).hist = s.hist ∧ (serveIndicatorPulse e s).notices = s.notices ∧
    (serveIndicatorPulse e s).routes = s.routes ∧ (serveIndicatorPulse e s).pages = s.pages ∧
    (serveIndicatorPulse e s).link.up = s.link.up ∧
    (serveIndicatorPulse e s).link.platformLow = s.link.platformLow ∧
    (serveIndicatorPulse e s).link.mask = s.link.mask ∧ (serveIndicatorPulse e s).link.arm = s.link.arm ∧
    (serveIndicatorPulse e s).link.setupTaken = s.link.setupTaken ∧
    (serveIndicatorPulse e s).link.lastRefused = s.link.lastRefused ∧
    (serveIndicatorPulse e s).link.resetCause = s.link.resetCause ∧
    (serveIndicatorPulse e s).link.readData = s.link.readData := by
  simp only [serveIndicatorPulse]
  (repeat' split) <;> simp

@[simp] theorem doneMotion_frame (r : ResultCode) (f : Nat) (d : List Byte) :
    (doneMotion r f d s).pending = s.pending ∧ (doneMotion r f d s).powered = s.powered ∧
    (doneMotion r f d s).time = s.time ∧ (doneMotion r f d s).draws = s.draws ∧
    (doneMotion r f d s).clock = s.clock ∧ (doneMotion r f d s).setup = s.setup ∧
    (doneMotion r f d s).src = s.src ∧ (doneMotion r f d s).gauge = s.gauge ∧
    (doneMotion r f d s).bright = s.bright ∧ (doneMotion r f d s).drv = s.drv ∧
    (doneMotion r f d s).motion = s.motion ∧ (doneMotion r f d s).hist = s.hist ∧
    (doneMotion r f d s).notices = s.notices ∧ (doneMotion r f d s).routes = s.routes ∧
    (doneMotion r f d s).pages = s.pages ∧ (doneMotion r f d s).link.up = s.link.up ∧
    (doneMotion r f d s).link.platformLow = s.link.platformLow ∧ (doneMotion r f d s).link.mask = s.link.mask ∧
    (doneMotion r f d s).link.arm = s.link.arm ∧ (doneMotion r f d s).link.setupTaken = s.link.setupTaken ∧
    (doneMotion r f d s).link.lastRefused = s.link.lastRefused ∧
    (doneMotion r f d s).link.resetCause = s.link.resetCause ∧
    (doneMotion r f d s).link.readData = s.link.readData := by
  simp only [doneMotion]
  (repeat' split) <;> simp

@[simp] theorem serveSetDropThresholds_frame (e : EntryId) :
    (serveSetDropThresholds e s).pending = s.pending ∧ (serveSetDropThresholds e s).powered = s.powered ∧
    (serveSetDropThresholds e s).time = s.time ∧ (serveSetDropThresholds e s).draws = s.draws ∧
    (serveSetDropThresholds e s).clock = s.clock ∧ (serveSetDropThresholds e s).setup = s.setup ∧
    (serveSetDropThresholds e s).src = s.src ∧ (serveSetDropThresholds e s).gauge = s.gauge ∧
    (serveSetDropThresholds e s).bright = s.bright ∧ (serveSetDropThresholds e s).drv = s.drv ∧
    (serveSetDropThresholds e s).hist = s.hist ∧ (serveSetDropThresholds e s).notices = s.notices ∧
    (serveSetDropThresholds e s).routes = s.routes ∧ (serveSetDropThresholds e s).pages = s.pages ∧
    (serveSetDropThresholds e s).link.up = s.link.up ∧
    (serveSetDropThresholds e s).link.platformLow = s.link.platformLow ∧
    (serveSetDropThresholds e s).link.mask = s.link.mask ∧ (serveSetDropThresholds e s).link.arm = s.link.arm ∧
    (serveSetDropThresholds e s).link.setupTaken = s.link.setupTaken ∧
    (serveSetDropThresholds e s).link.lastRefused = s.link.lastRefused ∧
    (serveSetDropThresholds e s).link.resetCause = s.link.resetCause ∧
    (serveSetDropThresholds e s).link.readData = s.link.readData := by
  simp only [serveSetDropThresholds]
  (repeat' split) <;> simp

@[simp] theorem armOn_frame :
    (armOn s).pending = s.pending ∧ (armOn s).powered = s.powered ∧ (armOn s).time = s.time ∧
    (armOn s).draws = s.draws ∧ (armOn s).clock = s.clock ∧ (armOn s).setup = s.setup ∧ (armOn s).src = s.src ∧
    (armOn s).gauge = s.gauge ∧ (armOn s).bright = s.bright ∧ (armOn s).drv = s.drv ∧ (armOn s).hist = s.hist ∧
    (armOn s).notices = s.notices ∧ (armOn s).routes = s.routes ∧ (armOn s).link.up = s.link.up ∧
    (armOn s).link.platformLow = s.link.platformLow ∧ (armOn s).link.mask = s.link.mask ∧
    (armOn s).link.arm = s.link.arm ∧ (armOn s).link.setupTaken = s.link.setupTaken ∧
    (armOn s).link.lastRefused = s.link.lastRefused ∧ (armOn s).link.resetCause = s.link.resetCause ∧
    (armOn s).link.readData = s.link.readData := by
  simp only [armOn]
  (repeat' split) <;> simp

@[simp] theorem armOff_frame :
    (armOff s).pending = s.pending ∧ (armOff s).powered = s.powered ∧ (armOff s).time = s.time ∧
    (armOff s).draws = s.draws ∧ (armOff s).clock = s.clock ∧ (armOff s).setup = s.setup ∧
    (armOff s).src = s.src ∧ (armOff s).gauge = s.gauge ∧ (armOff s).bright = s.bright ∧ (armOff s).drv = s.drv ∧
    (armOff s).hist = s.hist ∧ (armOff s).notices = s.notices ∧ (armOff s).routes = s.routes ∧
    (armOff s).link.up = s.link.up ∧ (armOff s).link.platformLow = s.link.platformLow ∧
    (armOff s).link.mask = s.link.mask ∧ (armOff s).link.arm = s.link.arm ∧
    (armOff s).link.setupTaken = s.link.setupTaken ∧ (armOff s).link.lastRefused = s.link.lastRefused ∧
    (armOff s).link.resetCause = s.link.resetCause ∧ (armOff s).link.readData = s.link.readData := by
  simp only [armOff]
  (repeat' split) <;> simp

@[simp] theorem serveMotionArm_frame (e : EntryId) :
    (serveMotionArm e s).pending = s.pending ∧ (serveMotionArm e s).powered = s.powered ∧
    (serveMotionArm e s).time = s.time ∧ (serveMotionArm e s).draws = s.draws ∧
    (serveMotionArm e s).clock = s.clock ∧ (serveMotionArm e s).setup = s.setup ∧
    (serveMotionArm e s).src = s.src ∧ (serveMotionArm e s).gauge = s.gauge ∧
    (serveMotionArm e s).bright = s.bright ∧ (serveMotionArm e s).drv = s.drv ∧
    (serveMotionArm e s).hist = s.hist ∧ (serveMotionArm e s).notices = s.notices ∧
    (serveMotionArm e s).routes = s.routes ∧ (serveMotionArm e s).link.up = s.link.up ∧
    (serveMotionArm e s).link.platformLow = s.link.platformLow ∧ (serveMotionArm e s).link.mask = s.link.mask ∧
    (serveMotionArm e s).link.arm = s.link.arm ∧ (serveMotionArm e s).link.setupTaken = s.link.setupTaken ∧
    (serveMotionArm e s).link.lastRefused = s.link.lastRefused ∧
    (serveMotionArm e s).link.resetCause = s.link.resetCause ∧
    (serveMotionArm e s).link.readData = s.link.readData := by
  simp only [serveMotionArm]
  (repeat' split) <;> simp

@[simp] theorem doneHistory_frame (r : ResultCode) (f : Nat) (d : List Byte) :
    (doneHistory r f d s).pending = s.pending ∧ (doneHistory r f d s).powered = s.powered ∧
    (doneHistory r f d s).time = s.time ∧ (doneHistory r f d s).draws = s.draws ∧
    (doneHistory r f d s).clock = s.clock ∧ (doneHistory r f d s).setup = s.setup ∧
    (doneHistory r f d s).src = s.src ∧ (doneHistory r f d s).gauge = s.gauge ∧
    (doneHistory r f d s).bright = s.bright ∧ (doneHistory r f d s).drv = s.drv ∧
    (doneHistory r f d s).motion = s.motion ∧ (doneHistory r f d s).hist = s.hist ∧
    (doneHistory r f d s).notices = s.notices ∧ (doneHistory r f d s).routes = s.routes ∧
    (doneHistory r f d s).pages = s.pages ∧ (doneHistory r f d s).link.up = s.link.up ∧
    (doneHistory r f d s).link.platformLow = s.link.platformLow ∧ (doneHistory r f d s).link.mask = s.link.mask ∧
    (doneHistory r f d s).link.arm = s.link.arm ∧ (doneHistory r f d s).link.setupTaken = s.link.setupTaken ∧
    (doneHistory r f d s).link.lastRefused = s.link.lastRefused ∧
    (doneHistory r f d s).link.resetCause = s.link.resetCause ∧
    (doneHistory r f d s).link.readData = s.link.readData := by
  simp only [doneHistory]
  (repeat' split) <;> simp

@[simp] theorem serveAppendNote_frame (e : EntryId) :
    (serveAppendNote e s).pending = s.pending ∧ (serveAppendNote e s).powered = s.powered ∧
    (serveAppendNote e s).time = s.time ∧ (serveAppendNote e s).draws = s.draws ∧
    (serveAppendNote e s).clock = s.clock ∧ (serveAppendNote e s).setup = s.setup ∧
    (serveAppendNote e s).src = s.src ∧ (serveAppendNote e s).gauge = s.gauge ∧
    (serveAppendNote e s).bright = s.bright ∧ (serveAppendNote e s).drv = s.drv ∧
    (serveAppendNote e s).motion = s.motion ∧ (serveAppendNote e s).notices = s.notices ∧
    (serveAppendNote e s).routes = s.routes ∧ (serveAppendNote e s).pages = s.pages ∧
    (serveAppendNote e s).link.up = s.link.up ∧ (serveAppendNote e s).link.platformLow = s.link.platformLow ∧
    (serveAppendNote e s).link.mask = s.link.mask ∧ (serveAppendNote e s).link.arm = s.link.arm ∧
    (serveAppendNote e s).link.setupTaken = s.link.setupTaken ∧
    (serveAppendNote e s).link.lastRefused = s.link.lastRefused ∧
    (serveAppendNote e s).link.resetCause = s.link.resetCause ∧
    (serveAppendNote e s).link.readData = s.link.readData := by
  simp only [serveAppendNote]
  (repeat' split) <;> simp

@[simp] theorem setMapping_frame (m : Option Nat) :
    (setMapping m s).pending = s.pending ∧ (setMapping m s).powered = s.powered ∧
    (setMapping m s).time = s.time ∧ (setMapping m s).draws = s.draws ∧ (setMapping m s).clock = s.clock ∧
    (setMapping m s).setup = s.setup ∧ (setMapping m s).src = s.src ∧ (setMapping m s).gauge = s.gauge ∧
    (setMapping m s).bright = s.bright ∧ (setMapping m s).drv = s.drv ∧ (setMapping m s).motion = s.motion ∧
    (setMapping m s).req = s.req ∧ (setMapping m s).notices = s.notices ∧ (setMapping m s).routes = s.routes ∧
    (setMapping m s).link = s.link := by
  simp only [setMapping]
  (repeat' split) <;> simp

@[simp] theorem serveHistoryMap_frame (e : EntryId) :
    (serveHistoryMap e s).pending = s.pending ∧ (serveHistoryMap e s).powered = s.powered ∧
    (serveHistoryMap e s).time = s.time ∧ (serveHistoryMap e s).draws = s.draws ∧
    (serveHistoryMap e s).clock = s.clock ∧ (serveHistoryMap e s).setup = s.setup ∧
    (serveHistoryMap e s).src = s.src ∧ (serveHistoryMap e s).gauge = s.gauge ∧
    (serveHistoryMap e s).bright = s.bright ∧ (serveHistoryMap e s).drv = s.drv ∧
    (serveHistoryMap e s).motion = s.motion ∧ (serveHistoryMap e s).notices = s.notices ∧
    (serveHistoryMap e s).routes = s.routes ∧ (serveHistoryMap e s).link.up = s.link.up ∧
    (serveHistoryMap e s).link.platformLow = s.link.platformLow ∧ (serveHistoryMap e s).link.mask = s.link.mask ∧
    (serveHistoryMap e s).link.arm = s.link.arm ∧ (serveHistoryMap e s).link.setupTaken = s.link.setupTaken ∧
    (serveHistoryMap e s).link.lastRefused = s.link.lastRefused ∧
    (serveHistoryMap e s).link.resetCause = s.link.resetCause ∧
    (serveHistoryMap e s).link.readData = s.link.readData := by
  simp only [serveHistoryMap]
  (repeat' split) <;> simp

@[simp] theorem serveHistoryProtect_frame (e : EntryId) :
    (serveHistoryProtect e s).pending = s.pending ∧ (serveHistoryProtect e s).powered = s.powered ∧
    (serveHistoryProtect e s).time = s.time ∧ (serveHistoryProtect e s).draws = s.draws ∧
    (serveHistoryProtect e s).clock = s.clock ∧ (serveHistoryProtect e s).setup = s.setup ∧
    (serveHistoryProtect e s).src = s.src ∧ (serveHistoryProtect e s).gauge = s.gauge ∧
    (serveHistoryProtect e s).bright = s.bright ∧ (serveHistoryProtect e s).drv = s.drv ∧
    (serveHistoryProtect e s).motion = s.motion ∧ (serveHistoryProtect e s).notices = s.notices ∧
    (serveHistoryProtect e s).routes = s.routes ∧ (serveHistoryProtect e s).pages = s.pages ∧
    (serveHistoryProtect e s).link.up = s.link.up ∧
    (serveHistoryProtect e s).link.platformLow = s.link.platformLow ∧
    (serveHistoryProtect e s).link.mask = s.link.mask ∧ (serveHistoryProtect e s).link.arm = s.link.arm ∧
    (serveHistoryProtect e s).link.setupTaken = s.link.setupTaken ∧
    (serveHistoryProtect e s).link.lastRefused = s.link.lastRefused ∧
    (serveHistoryProtect e s).link.resetCause = s.link.resetCause ∧
    (serveHistoryProtect e s).link.readData = s.link.readData := by
  simp only [serveHistoryProtect]
  (repeat' split) <;> simp

@[simp] theorem serveHistoryLocate_frame (e : EntryId) :
    (serveHistoryLocate e s).pending = s.pending ∧ (serveHistoryLocate e s).powered = s.powered ∧
    (serveHistoryLocate e s).time = s.time ∧ (serveHistoryLocate e s).draws = s.draws ∧
    (serveHistoryLocate e s).clock = s.clock ∧ (serveHistoryLocate e s).setup = s.setup ∧
    (serveHistoryLocate e s).src = s.src ∧ (serveHistoryLocate e s).gauge = s.gauge ∧
    (serveHistoryLocate e s).bright = s.bright ∧ (serveHistoryLocate e s).drv = s.drv ∧
    (serveHistoryLocate e s).motion = s.motion ∧ (serveHistoryLocate e s).hist = s.hist ∧
    (serveHistoryLocate e s).notices = s.notices ∧ (serveHistoryLocate e s).routes = s.routes ∧
    (serveHistoryLocate e s).pages = s.pages ∧ (serveHistoryLocate e s).link.up = s.link.up ∧
    (serveHistoryLocate e s).link.platformLow = s.link.platformLow ∧
    (serveHistoryLocate e s).link.mask = s.link.mask ∧ (serveHistoryLocate e s).link.arm = s.link.arm ∧
    (serveHistoryLocate e s).link.setupTaken = s.link.setupTaken ∧
    (serveHistoryLocate e s).link.lastRefused = s.link.lastRefused ∧
    (serveHistoryLocate e s).link.resetCause = s.link.resetCause ∧
    (serveHistoryLocate e s).link.readData = s.link.readData := by
  simp only [serveHistoryLocate]
  (repeat' split) <;> simp

@[simp] theorem clampRecord_frame (b : BayId) :
    (clampRecord b s).pending = s.pending ∧ (clampRecord b s).powered = s.powered ∧
    (clampRecord b s).time = s.time ∧ (clampRecord b s).draws = s.draws ∧ (clampRecord b s).clock = s.clock ∧
    (clampRecord b s).setup = s.setup ∧ (clampRecord b s).motion = s.motion ∧ (clampRecord b s).hist = s.hist ∧
    (clampRecord b s).req = s.req ∧ (clampRecord b s).routes = s.routes ∧ (clampRecord b s).link.up = s.link.up ∧
    (clampRecord b s).link.platformLow = s.link.platformLow ∧ (clampRecord b s).link.memory = s.link.memory ∧
    (clampRecord b s).link.mask = s.link.mask ∧ (clampRecord b s).link.arm = s.link.arm ∧
    (clampRecord b s).link.setupTaken = s.link.setupTaken ∧
    (clampRecord b s).link.lastRefused = s.link.lastRefused ∧
    (clampRecord b s).link.resetCause = s.link.resetCause ∧ (clampRecord b s).link.readData = s.link.readData := by
  simp only [clampRecord]
  (repeat' split) <;> simp

@[simp] theorem acceptSetup_frame (v : Setup) :
    (acceptSetup v s).pending = s.pending ∧ (acceptSetup v s).powered = s.powered ∧
    (acceptSetup v s).time = s.time ∧ (acceptSetup v s).draws = s.draws ∧ (acceptSetup v s).clock = s.clock ∧
    (acceptSetup v s).motion = s.motion ∧ (acceptSetup v s).hist = s.hist ∧ (acceptSetup v s).req = s.req ∧
    (acceptSetup v s).routes = s.routes ∧ (acceptSetup v s).link.up = s.link.up ∧
    (acceptSetup v s).link.platformLow = s.link.platformLow ∧ (acceptSetup v s).link.memory = s.link.memory ∧
    (acceptSetup v s).link.mask = s.link.mask ∧ (acceptSetup v s).link.arm = s.link.arm ∧
    (acceptSetup v s).link.lastRefused = s.link.lastRefused ∧
    (acceptSetup v s).link.resetCause = s.link.resetCause ∧ (acceptSetup v s).link.readData = s.link.readData := by
  simp only [acceptSetup]
  (repeat' split) <;> simp

@[simp] theorem serveSetup_frame (e : EntryId) :
    (serveSetup e s).pending = s.pending ∧ (serveSetup e s).powered = s.powered ∧
    (serveSetup e s).time = s.time ∧ (serveSetup e s).draws = s.draws ∧ (serveSetup e s).clock = s.clock ∧
    (serveSetup e s).motion = s.motion ∧ (serveSetup e s).hist = s.hist ∧ (serveSetup e s).routes = s.routes ∧
    (serveSetup e s).link.up = s.link.up ∧ (serveSetup e s).link.platformLow = s.link.platformLow ∧
    (serveSetup e s).link.mask = s.link.mask ∧ (serveSetup e s).link.arm = s.link.arm ∧
    (serveSetup e s).link.lastRefused = s.link.lastRefused ∧
    (serveSetup e s).link.resetCause = s.link.resetCause ∧ (serveSetup e s).link.readData = s.link.readData := by
  simp only [serveSetup]
  (repeat' split) <;> simp

@[simp] theorem serveSetClock_frame (e : EntryId) :
    (serveSetClock e s).pending = s.pending ∧ (serveSetClock e s).powered = s.powered ∧
    (serveSetClock e s).time = s.time ∧ (serveSetClock e s).draws = s.draws ∧
    (serveSetClock e s).setup = s.setup ∧ (serveSetClock e s).src = s.src ∧ (serveSetClock e s).gauge = s.gauge ∧
    (serveSetClock e s).bright = s.bright ∧ (serveSetClock e s).drv = s.drv ∧
    (serveSetClock e s).motion = s.motion ∧ (serveSetClock e s).routes = s.routes ∧
    (serveSetClock e s).link.up = s.link.up ∧ (serveSetClock e s).link.platformLow = s.link.platformLow ∧
    (serveSetClock e s).link.mask = s.link.mask ∧ (serveSetClock e s).link.arm = s.link.arm ∧
    (serveSetClock e s).link.setupTaken = s.link.setupTaken ∧
    (serveSetClock e s).link.lastRefused = s.link.lastRefused ∧
    (serveSetClock e s).link.resetCause = s.link.resetCause ∧ (serveSetClock e s).link.readData = s.link.readData := by
  simp only [serveSetClock]
  (repeat' split) <;> simp

@[simp] theorem setRoute_frame (k : Fin 23) (r : Route) :
    (setRoute k r s).pending = s.pending ∧ (setRoute k r s).powered = s.powered ∧
    (setRoute k r s).time = s.time ∧ (setRoute k r s).draws = s.draws ∧ (setRoute k r s).clock = s.clock ∧
    (setRoute k r s).setup = s.setup ∧ (setRoute k r s).src = s.src ∧ (setRoute k r s).gauge = s.gauge ∧
    (setRoute k r s).bright = s.bright ∧ (setRoute k r s).drv = s.drv ∧ (setRoute k r s).motion = s.motion ∧
    (setRoute k r s).hist = s.hist ∧ (setRoute k r s).req = s.req ∧ (setRoute k r s).notices = s.notices ∧
    (setRoute k r s).link = s.link ∧ (setRoute k r s).pages = s.pages := by
  simp only [setRoute]
  (repeat' split) <;> simp

@[simp] theorem serveNoticeRoute_frame (e : EntryId) :
    (serveNoticeRoute e s).pending = s.pending ∧ (serveNoticeRoute e s).powered = s.powered ∧
    (serveNoticeRoute e s).time = s.time ∧ (serveNoticeRoute e s).draws = s.draws ∧
    (serveNoticeRoute e s).clock = s.clock ∧ (serveNoticeRoute e s).setup = s.setup ∧
    (serveNoticeRoute e s).src = s.src ∧ (serveNoticeRoute e s).gauge = s.gauge ∧
    (serveNoticeRoute e s).bright = s.bright ∧ (serveNoticeRoute e s).drv = s.drv ∧
    (serveNoticeRoute e s).motion = s.motion ∧ (serveNoticeRoute e s).hist = s.hist ∧
    (serveNoticeRoute e s).notices = s.notices ∧ (serveNoticeRoute e s).pages = s.pages ∧
    (serveNoticeRoute e s).link.up = s.link.up ∧ (serveNoticeRoute e s).link.platformLow = s.link.platformLow ∧
    (serveNoticeRoute e s).link.mask = s.link.mask ∧ (serveNoticeRoute e s).link.arm = s.link.arm ∧
    (serveNoticeRoute e s).link.setupTaken = s.link.setupTaken ∧
    (serveNoticeRoute e s).link.lastRefused = s.link.lastRefused ∧
    (serveNoticeRoute e s).link.resetCause = s.link.resetCause ∧
    (serveNoticeRoute e s).link.readData = s.link.readData := by
  simp only [serveNoticeRoute]
  (repeat' split) <;> simp

@[simp] theorem withdrawEntry_frame (e : EntryId) :
    (withdrawEntry e s).pending = s.pending ∧ (withdrawEntry e s).powered = s.powered ∧
    (withdrawEntry e s).time = s.time ∧ (withdrawEntry e s).draws = s.draws ∧
    (withdrawEntry e s).clock = s.clock ∧ (withdrawEntry e s).setup = s.setup ∧ (withdrawEntry e s).src = s.src ∧
    (withdrawEntry e s).gauge = s.gauge ∧ (withdrawEntry e s).bright = s.bright ∧
    (withdrawEntry e s).drv = s.drv ∧ (withdrawEntry e s).motion = s.motion ∧ (withdrawEntry e s).hist = s.hist ∧
    (withdrawEntry e s).notices = s.notices ∧ (withdrawEntry e s).routes = s.routes ∧
    (withdrawEntry e s).pages = s.pages ∧ (withdrawEntry e s).link.up = s.link.up ∧
    (withdrawEntry e s).link.platformLow = s.link.platformLow ∧ (withdrawEntry e s).link.mask = s.link.mask ∧
    (withdrawEntry e s).link.arm = s.link.arm ∧ (withdrawEntry e s).link.setupTaken = s.link.setupTaken ∧
    (withdrawEntry e s).link.lastRefused = s.link.lastRefused ∧
    (withdrawEntry e s).link.resetCause = s.link.resetCause ∧ (withdrawEntry e s).link.readData = s.link.readData := by
  simp only [withdrawEntry]
  (repeat' split) <;> simp

@[simp] theorem cancelActive_frame (e : EntryId) :
    (cancelActive e s).2.pending = s.pending ∧ (cancelActive e s).2.powered = s.powered ∧
    (cancelActive e s).2.time = s.time ∧ (cancelActive e s).2.draws = s.draws ∧
    (cancelActive e s).2.clock = s.clock ∧ (cancelActive e s).2.setup = s.setup ∧
    (cancelActive e s).2.src = s.src ∧ (cancelActive e s).2.gauge = s.gauge ∧
    (cancelActive e s).2.bright = s.bright ∧ (cancelActive e s).2.motion = s.motion ∧
    (cancelActive e s).2.notices = s.notices ∧ (cancelActive e s).2.routes = s.routes ∧
    (cancelActive e s).2.pages = s.pages ∧ (cancelActive e s).2.link.up = s.link.up ∧
    (cancelActive e s).2.link.platformLow = s.link.platformLow ∧ (cancelActive e s).2.link.mask = s.link.mask ∧
    (cancelActive e s).2.link.arm = s.link.arm ∧ (cancelActive e s).2.link.setupTaken = s.link.setupTaken ∧
    (cancelActive e s).2.link.lastRefused = s.link.lastRefused ∧
    (cancelActive e s).2.link.resetCause = s.link.resetCause ∧
    (cancelActive e s).2.link.readData = s.link.readData := by
  simp only [cancelActive]
  (repeat' split) <;> simp

@[simp] theorem cancelTarget_frame (e : EntryId) :
    (cancelTarget e s).2.pending = s.pending ∧ (cancelTarget e s).2.powered = s.powered ∧
    (cancelTarget e s).2.time = s.time ∧ (cancelTarget e s).2.draws = s.draws ∧
    (cancelTarget e s).2.clock = s.clock ∧ (cancelTarget e s).2.setup = s.setup ∧
    (cancelTarget e s).2.src = s.src ∧ (cancelTarget e s).2.gauge = s.gauge ∧
    (cancelTarget e s).2.bright = s.bright ∧ (cancelTarget e s).2.motion = s.motion ∧
    (cancelTarget e s).2.notices = s.notices ∧ (cancelTarget e s).2.routes = s.routes ∧
    (cancelTarget e s).2.pages = s.pages ∧ (cancelTarget e s).2.link.up = s.link.up ∧
    (cancelTarget e s).2.link.platformLow = s.link.platformLow ∧ (cancelTarget e s).2.link.mask = s.link.mask ∧
    (cancelTarget e s).2.link.arm = s.link.arm ∧ (cancelTarget e s).2.link.setupTaken = s.link.setupTaken ∧
    (cancelTarget e s).2.link.lastRefused = s.link.lastRefused ∧
    (cancelTarget e s).2.link.resetCause = s.link.resetCause ∧
    (cancelTarget e s).2.link.readData = s.link.readData := by
  simp only [cancelTarget]
  (repeat' split) <;> simp

@[simp] theorem serveCancel_frame (e : EntryId) :
    (serveCancel e s).pending = s.pending ∧ (serveCancel e s).powered = s.powered ∧
    (serveCancel e s).time = s.time ∧ (serveCancel e s).draws = s.draws ∧ (serveCancel e s).clock = s.clock ∧
    (serveCancel e s).setup = s.setup ∧ (serveCancel e s).src = s.src ∧ (serveCancel e s).gauge = s.gauge ∧
    (serveCancel e s).bright = s.bright ∧ (serveCancel e s).motion = s.motion ∧
    (serveCancel e s).notices = s.notices ∧ (serveCancel e s).routes = s.routes ∧
    (serveCancel e s).pages = s.pages ∧ (serveCancel e s).link.up = s.link.up ∧
    (serveCancel e s).link.platformLow = s.link.platformLow ∧ (serveCancel e s).link.mask = s.link.mask ∧
    (serveCancel e s).link.arm = s.link.arm ∧ (serveCancel e s).link.setupTaken = s.link.setupTaken ∧
    (serveCancel e s).link.lastRefused = s.link.lastRefused ∧
    (serveCancel e s).link.resetCause = s.link.resetCause ∧ (serveCancel e s).link.readData = s.link.readData := by
  simp only [serveCancel]
  (repeat' split) <;> simp

@[simp] theorem serve_frame (k : ReqKind) (e : EntryId) :
    (serve k e s).pending = s.pending ∧ (serve k e s).powered = s.powered ∧ (serve k e s).time = s.time ∧
    (serve k e s).draws = s.draws ∧ (serve k e s).link.up = s.link.up ∧
    (serve k e s).link.platformLow = s.link.platformLow ∧ (serve k e s).link.mask = s.link.mask ∧
    (serve k e s).link.arm = s.link.arm ∧ (serve k e s).link.lastRefused = s.link.lastRefused ∧
    (serve k e s).link.resetCause = s.link.resetCause ∧ (serve k e s).link.readData = s.link.readData := by
  cases k <;> simp only [serve, unlessHistoryFault] <;> (repeat' split) <;> simp

@[simp] theorem takeEntry_frame (e : EntryId) :
    (takeEntry e s).pending = s.pending ∧ (takeEntry e s).powered = s.powered ∧ (takeEntry e s).time = s.time ∧
    (takeEntry e s).draws = s.draws ∧ (takeEntry e s).link.up = s.link.up ∧
    (takeEntry e s).link.platformLow = s.link.platformLow ∧ (takeEntry e s).link.mask = s.link.mask ∧
    (takeEntry e s).link.arm = s.link.arm ∧ (takeEntry e s).link.lastRefused = s.link.lastRefused ∧
    (takeEntry e s).link.resetCause = s.link.resetCause ∧ (takeEntry e s).link.readData = s.link.readData := by
  simp only [takeEntry]
  (repeat' split) <;> simp

@[simp] theorem serveUpTo_frame (n : Nat) :
    (serveUpTo n s).pending = s.pending ∧ (serveUpTo n s).powered = s.powered ∧ (serveUpTo n s).time = s.time ∧
    (serveUpTo n s).draws = s.draws ∧ (serveUpTo n s).link.up = s.link.up ∧
    (serveUpTo n s).link.platformLow = s.link.platformLow ∧ (serveUpTo n s).link.mask = s.link.mask ∧
    (serveUpTo n s).link.arm = s.link.arm ∧ (serveUpTo n s).link.lastRefused = s.link.lastRefused ∧
    (serveUpTo n s).link.resetCause = s.link.resetCause ∧ (serveUpTo n s).link.readData = s.link.readData := by
  induction n generalizing s with
  | zero => simp [serveUpTo]
  | succ n ih =>
    simp only [serveUpTo]
    split
    · simp
    · simp [ih]

@[simp] theorem serveQueues_frame :
    (serveQueues s).pending = s.pending ∧ (serveQueues s).powered = s.powered ∧ (serveQueues s).time = s.time ∧
    (serveQueues s).draws = s.draws ∧ (serveQueues s).link.up = s.link.up ∧
    (serveQueues s).link.platformLow = s.link.platformLow ∧ (serveQueues s).link.mask = s.link.mask ∧
    (serveQueues s).link.arm = s.link.arm ∧ (serveQueues s).link.lastRefused = s.link.lastRefused ∧
    (serveQueues s).link.resetCause = s.link.resetCause ∧ (serveQueues s).link.readData = s.link.readData := by
  simp only [serveQueues]
  (repeat' split) <;> simp

@[simp] theorem postEntry_frame (e : EntryId) :
    (postEntry e s).pending = s.pending ∧ (postEntry e s).powered = s.powered ∧ (postEntry e s).time = s.time ∧
    (postEntry e s).draws = s.draws ∧ (postEntry e s).link.up = s.link.up ∧
    (postEntry e s).link.platformLow = s.link.platformLow ∧ (postEntry e s).link.mask = s.link.mask ∧
    (postEntry e s).link.arm = s.link.arm ∧ (postEntry e s).link.lastRefused = s.link.lastRefused ∧
    (postEntry e s).link.resetCause = s.link.resetCause ∧ (postEntry e s).link.readData = s.link.readData := by
  simp only [postEntry]
  (repeat' split) <;> simp

@[simp] theorem abandonAll_frame :
    (abandonAll s).pending = s.pending ∧ (abandonAll s).powered = s.powered ∧ (abandonAll s).time = s.time ∧
    (abandonAll s).draws = s.draws ∧ (abandonAll s).clock = s.clock ∧ (abandonAll s).setup = s.setup ∧
    (abandonAll s).gauge = s.gauge ∧ (abandonAll s).bright = s.bright ∧ (abandonAll s).motion = s.motion ∧
    (abandonAll s).notices = s.notices ∧ (abandonAll s).routes = s.routes ∧ (abandonAll s).pages = s.pages ∧
    (abandonAll s).link.up = s.link.up ∧ (abandonAll s).link.platformLow = s.link.platformLow ∧
    (abandonAll s).link.mask = s.link.mask ∧ (abandonAll s).link.arm = s.link.arm ∧
    (abandonAll s).link.setupTaken = s.link.setupTaken ∧ (abandonAll s).link.lastRefused = s.link.lastRefused ∧
    (abandonAll s).link.resetCause = s.link.resetCause ∧ (abandonAll s).link.readData = s.link.readData := by
  simp only [abandonAll]
  (repeat' split) <;> simp

@[simp] theorem endEvent_frame :
    (endEvent s).pending = s.pending ∧ (endEvent s).powered = s.powered ∧ (endEvent s).time = s.time ∧
    (endEvent s).draws = s.draws ∧ (endEvent s).link.up = s.link.up ∧
    (endEvent s).link.platformLow = s.link.platformLow ∧ (endEvent s).link.mask = s.link.mask ∧
    (endEvent s).link.arm = s.link.arm ∧ (endEvent s).link.lastRefused = s.link.lastRefused ∧
    (endEvent s).link.resetCause = s.link.resetCause ∧ (endEvent s).link.readData = s.link.readData := by
  simp only [endEvent]
  (repeat' split) <;> simp

end Sys2Proof.Machine
end

