-- ==== Sys2Proof/Laws/Backlight.lean ====
section
/-! SUPPORT. The backlight: what judging its conditions, a hand-over, a delay expiry, a frame boundary and an accepted SETUP do to it. -/

namespace Sys2Proof.Machine

variable {s : State}

/-- The backlight's part of `State.DarkLaw`. -/
abbrev Driver.Dark (d : Driver) : Prop :=
  (d.state = .dark ↔ d.heldDark = true) ∧ (d.state ≠ .framing → d.activeCompare = 0)

/-- Once its conditions are judged, the backlight is DARK exactly while held DARK (R89, R90), from any state in which
the active compare is 0 outside FRAMING. -/
theorem judgeBacklight_dark (h : s.drv.state ≠ .framing → s.drv.activeCompare = 0) : (judgeBacklight s).drv.Dark := by
  unfold judgeBacklight Driver.Dark
  by_cases hd : s.drv.heldDark = true
  · simp only [hd, if_true]
    simpa [Driver.heldDark] using hd
  · simp only [hd]
    cases hs : s.drv.state <;> simp_all [Driver.leaveDark, Driver.beginFrame]
    by_cases h0 : s.setup.onDelay = 0 <;> simp_all [Driver.heldDark]

/-- Where the backlight is DARK exactly while held DARK, judging its conditions changes nothing. -/
theorem judgeBacklight_of_dark (h : s.drv.Dark) : judgeBacklight s = s := by
  obtain ⟨h1, h2⟩ := h
  unfold judgeBacklight
  by_cases hd : s.drv.heldDark = true
  · have h3 := h1.mpr hd
    have h4 := h2 (by simp [h3])
    simp only [hd, if_true, ← h3, ← h4]
  · have h3 : s.drv.state ≠ .dark := fun h => hd (h1.mp h)
    simp only [hd]
    cases hs : s.drv.state <;> simp_all

/-- A hand-over leaves the backlight DARK exactly while held DARK (R93). -/
theorem handCompare_dark (h : s.drv.Dark) : (handCompare s).drv.Dark := by
  simp only [handCompare]
  split
  · exact h
  · exact judgeBacklight_dark h.2

/-- An accepted SETUP leaves the backlight DARK exactly while held DARK (R94). -/
theorem driverSetup_dark (h : s.drv.Dark) : (driverSetup s).drv.Dark :=
  judgeBacklight_dark h.2

/-- The expiry of an on-delay leaves the backlight DARK exactly while held DARK (R90). -/
theorem delayExpiry_dark (h : s.drv.Dark) : (delayExpiry s).drv.Dark := by
  unfold delayExpiry
  (repeat' split) <;> simp_all [Driver.Dark, Driver.beginFrame, Driver.heldDark]

/-- A frame boundary leaves the backlight DARK exactly while held DARK (R91). -/
theorem frameBoundary_dark (h : s.drv.Dark) : (frameBoundary s).drv.Dark := by
  unfold frameBoundary
  (repeat' split) <;> simp_all [Driver.Dark, Driver.beginFrame, Driver.heldDark]

/-- Where the level-zero mark stands and the backlight is DARK exactly while held DARK, a hand-over changes the two
compares alone (R93). -/
theorem handCompare_of_dark (h : s.drv.Dark) (hn : s.drv.nextCompare = s.bright.compare)
    (hz : s.drv.levelZero = decide (s.bright.current = 0)) :
    handCompare s = { s with
      bright.compare := compareOf s.bright.current s.setup.period s.setup.minOn
      drv.nextCompare := compareOf s.bright.current s.setup.period s.setup.minOn } := by
  simp only [handCompare, ← hz]
  split
  case isTrue hc =>
    have hd : { s.drv with nextCompare := s.bright.compare } = s.drv := by rw [← hn]
    rw [hc.1, hd]
  case isFalse => exact judgeBacklight_of_dark h

/-- The driver after an accepted SETUP is the one of `Driver.setUp` (R89, R90, R94). -/
theorem driverSetup_drv (hd : s.drv.state ≠ .framing → s.drv.activeCompare = 0) :
    (driverSetup s).drv = s.drv.setUp s.setup s.drv.nextCompare s.drv.levelZero s.time := by
  unfold driverSetup judgeBacklight
  by_cases h : s.drv.sys ≠ .run ∨ s.drv.levelZero = true
  · simp_all [Driver.heldDark, Driver.setUp]
  · cases hs : s.drv.state <;> simp_all [Driver.heldDark, Driver.setUp, Driver.leaveDark, Driver.beginFrame]

/-- An accepted SETUP reaches the driver's fields alone, which become those of `Driver.setUp` (R94). -/
theorem driverSetup_eq (hd : s.drv.state ≠ .framing → s.drv.activeCompare = 0) :
    driverSetup s = { s with drv := s.drv.setUp s.setup s.drv.nextCompare s.drv.levelZero s.time } := by
  have h : driverSetup s = { s with drv := (driverSetup s).drv } := by
    simp only [driverSetup, judgeBacklight]
    (repeat' split) <;> rfl
  rw [h, driverSetup_drv hd]

/-- The hand-over and the driver's taking of the setup values in force, from a state whose driver has the level-zero
mark and the last compare handed over (R85, R94). -/
theorem driverSetup_handCompare (h : s.drv.Dark) (hn : s.drv.nextCompare = s.bright.compare)
    (hz : s.drv.levelZero = decide (s.bright.current = 0)) :
    driverSetup (handCompare s) = { s with
      bright.compare := compareOf s.bright.current s.setup.period s.setup.minOn
      drv := s.drv.setUp s.setup (compareOf s.bright.current s.setup.period s.setup.minOn)
        (decide (s.bright.current = 0)) s.time } := by
  rw [handCompare_of_dark h hn hz, ← hz]
  exact driverSetup_eq h.2

/-- Bay `b`'s record keeps its values at a nominal capacity whose bounds hold it (R60). -/
theorem clampRecord_of_law (b : BayId) (h : ∀ r ∈ s.gaugeRec b, r.Law s.setup.nominal) : clampRecord b s = s := by
  unfold clampRecord
  cases hr : s.gaugeRec b with
  | none => rfl
  | some r =>
    obtain ⟨h1, h2, h3, -, -, h6⟩ := h r (by simp [hr])
    have hf : clamp (fullLow s.setup.nominal) (fullHigh s.setup.nominal) r.full = r.full := by
      rw [clamp, Nat.min_eq_right h2, Nat.max_eq_right h1]
    have hw : r.withFull (clamp (fullLow s.setup.nominal) (fullHigh s.setup.nominal) r.full) = r := by
      rw [hf]
      simp only [GaugeRec.withFull, GaugeRec.withSoc, Nat.min_eq_left h3, ← h6]
    have hs : s.setGaugeRec b (some r) = s := by rw [← hr]; cases b <;> rfl
    simp only [hw, hs, socChanged, if_true]

/-- An accepted SETUP that no gauge record feels changes the setup values, the latch, the compare, the driver and the
part page's cause (R60, R85, R94, R173, R174). -/
theorem acceptSetup_of_laws (v : Setup) (hA : ∀ r ∈ s.gauge.recA, r.Law v.nominal)
    (hB : ∀ r ∈ s.gauge.recB, r.Law v.nominal) (hc : s.CompareLaw) (hd : s.DarkLaw) :
    acceptSetup v s = { s with
      setup := v
      link.setupTaken := true
      bright.compare := compareOf s.bright.current v.period v.minOn
      drv := s.drv.setUp v (compareOf s.bright.current v.period v.minOn) (decide (s.bright.current = 0)) s.time }.touch
        .part := by
  obtain ⟨u, hu⟩ : ∃ u, u = { s with setup := v, link.setupTaken := true }.touch .part := ⟨_, rfl⟩
  have hA' : ∀ r ∈ u.gaugeRec .bayA, r.Law u.setup.nominal := by subst hu; exact hA
  have hB' : ∀ r ∈ u.gaugeRec .bayB, r.Law u.setup.nominal := by subst hu; exact hB
  have hk : clampRecord .bayB (clampRecord .bayA u) = u := by
    rw [clampRecord_of_law .bayA hA', clampRecord_of_law .bayB hB']
  have ha : acceptSetup v s = driverSetup (handCompare u) := by
    simp only [acceptSetup, ← hu, hk, ite_self]
  have hu' : u.drv = s.drv ∧ u.bright = s.bright := by subst hu; exact ⟨rfl, rfl⟩
  rw [ha, driverSetup_handCompare (by rw [hu'.1]; exact ⟨hd.1, hd.2.1⟩) (by rw [hu'.1, hu'.2]; exact hc.2.1)
    (by rw [hu'.1, hu'.2]; exact hc.2.2)]
  subst hu
  rfl

end Sys2Proof.Machine
end

