-- ==== Sys2Proof/Laws/Event.lean ====
section
/-! SUPPORT. The end of an event on a state with no work left, and steps of the block. -/

namespace Sys2Proof.Machine

/-- With no hand-over held back, none is issued. -/
theorem issueHoldups_of_nil {s : State} (h : s.src.holdups = []) : issueHoldups s = s := by
  obtain ⟨⟩ := s
  simp only at h
  simp [issueHoldups, h]
  rw [← h]

/-- With no queued request whose unit is idle, none is taken. -/
theorem serveUpTo_of_none {s : State} (h : ∀ e ∈ s.req.intake, s.servable e = false) (n : Nat) :
    serveUpTo n s = s := by
  cases n with
  | zero => rfl
  | succ n =>
    have h' : s.req.intake.find? s.servable = none := by
      rw [List.find?_eq_none]
      intro e he
      simp [h e he]
    simp [serveUpTo, h']

/-- With no work for a free array, the arbiter starts nothing. -/
theorem arbitrate_of_quiet {s : State} (h : s.hist.Quiet) : arbitrate s = s := by
  unfold arbitrate
  by_cases hr : s.hist.ready = true
  · obtain ⟨h1, h2, h3, h4⟩ := h hr
    simp [hr, h1, h2, History.noteInTries, hostWork, h3, h4]
  · simp [hr]

/-- With no cause, a page is not updated. -/
theorem flushPage_of_quiet {s : State} (p : PageId) (h : (s.page p).cause = false) : flushPage p s = s := by
  simp [flushPage, h]

/-- With no cause on any page, none is updated. -/
theorem flushPages_of_quiet {s : State} (h : s.pages.Quiet) : flushPages s = s := by
  obtain ⟨h1, h2, h3, h4⟩ := h
  unfold flushPages
  rw [flushPage_of_quiet .part h1, flushPage_of_quiet .power h2, flushPage_of_quiet .display h3,
    flushPage_of_quiet .motion h4]

/-- The end of an event changes nothing on a state with no work left. -/
theorem endEvent_of_quiet {s : State} (h : s.Quiet) : endEvent s = s := by
  obtain ⟨h1, h2, h3, h4⟩ := h
  unfold endEvent
  rw [issueHoldups_of_nil h1]
  unfold serveQueues
  rw [serveUpTo_of_none h2, issueHoldups_of_nil h1, arbitrate_of_quiet h3, flushPages_of_quiet h4]

/-- An event whose own effect leaves no work has that effect and no other. -/
theorem event_of_quiet {f : State → State} {s : State} (hp : s.powered = true) (h : (f s).Quiet) :
    event f s = .next (f s) := by
  simp [event, hp, endEvent_of_quiet h]

/-- Whether a queued request could be taken depends on these parts of the state only. -/
theorem servable_congr {s t : State} (hm : t.link.memory = s.link.memory) (hr : t.req = s.req)
    (hp : t.src.prep.pending = s.src.prep.pending) (hb : t.bright.staged = s.bright.staged)
    (hd : t.motion.disarmPending = s.motion.disarmPending) (hn : t.hist.note = s.hist.note)
    (hq : t.hist.protect = s.hist.protect) (hs : t.hist.scanning = s.hist.scanning) (e : EntryId) :
    t.servable e = s.servable e := by
  have h1 : t.unitOf e = s.unitOf e := by simp [State.unitOf, State.kindCode, State.xreadLe, hm]
  have h2 : ∀ u, t.busy u = s.busy u := by
    intro u
    cases u <;> simp [State.busy, hr, hp, hb, hd, hn, hq, hs]
  unfold State.servable
  rw [h1]
  cases s.unitOf e with
  | none => rfl
  | some u => simp [h2]

/-- A change that leaves these parts of the state leaves no work where there was none. -/
theorem Quiet.congr {s t : State} (h : s.Quiet) (hh : t.src.holdups = s.src.holdups)
    (hm : t.link.memory = s.link.memory) (hr : t.req = s.req) (hp : t.src.prep.pending = s.src.prep.pending)
    (hb : t.bright.staged = s.bright.staged) (hd : t.motion.disarmPending = s.motion.disarmPending)
    (hx : t.hist = s.hist) (hg : t.pages = s.pages) : t.Quiet := by
  obtain ⟨h1, h2, h3, h4⟩ := h
  refine ⟨hh.trans h1, ?_, hx ▸ h3, hg ▸ h4⟩
  intro e he
  rw [servable_congr hm hr hp hb hd (by rw [hx]) (by rw [hx]) (by rw [hx])]
  exact h2 e (hr ▸ he)

/-- A step with a waiting command runs it with the rest of the queue. -/
theorem step_cons {s : State} {c : Instr} {rest : List Instr} (h : s.pending = c :: rest) :
    step s = exec c { s with pending := rest } := by
  simp [step, h]

/-- A step with no waiting command lets time pass. -/
theorem step_nil {s : State} (h : s.pending = []) : step s = .next (idle s) := by
  simp [step, h]

end Sys2Proof.Machine
end

