-- ==== Sys2Proof/Laws/Memory.lean ====
section
/-! SUPPORT. The byte memories: what a read gives after a write, and that every operation keeps the canonical form. -/

namespace Sys2Proof.Machine

variable {d : Byte}

/-- A lower bound of the listed addresses may be lowered. -/
theorem memWfFrom_mono {lo lo' : Nat} {m : List Host.Cell} (h : lo' ≤ lo) (w : memWfFrom d lo m = true) :
    memWfFrom d lo' m = true := by
  cases m with
  | nil => rfl
  | cons c m =>
    obtain ⟨k, v⟩ := c
    simp only [memWfFrom, Bool.and_eq_true, decide_eq_true_eq] at w ⊢
    exact ⟨⟨by omega, w.1.2⟩, w.2⟩

/-- Below the listed addresses a canonical memory reads as its default. -/
theorem memRead_below {lo a : Nat} {m : List Host.Cell} (w : memWfFrom d lo m = true) (h : a < lo) :
    memRead d m a = d := by
  cases m with
  | nil => rfl
  | cons c m =>
    obtain ⟨k, v⟩ := c
    simp only [memWfFrom, Bool.and_eq_true, decide_eq_true_eq] at w
    simp only [memRead]
    rw [if_pos (by omega)]

/-- A write keeps the canonical form. -/
theorem memWfFrom_memWrite {lo a : Nat} (b : Byte) {m : List Host.Cell} (w : memWfFrom d lo m = true) (h : lo ≤ a) :
    memWfFrom d lo (memWrite d m a b) = true := by
  induction m generalizing lo with
  | nil =>
    simp only [memWrite]
    split
    · rfl
    · rename_i hb
      simp [memWfFrom, hb, h]
  | cons c m ih =>
    obtain ⟨k, v⟩ := c
    simp only [memWfFrom, Bool.and_eq_true, decide_eq_true_eq] at w
    obtain ⟨⟨h1, h2⟩, h3⟩ := w
    simp only [memWrite]
    split
    · rename_i hak
      split
      · simp [memWfFrom, h1, h2, h3]
      · rename_i hb
        simp only [memWfFrom, Bool.and_eq_true, decide_eq_true_eq]
        exact ⟨⟨h, hb⟩, ⟨by omega, h2⟩, h3⟩
    · split
      · rename_i hak
        subst hak
        split
        · exact memWfFrom_mono (by omega) h3
        · rename_i hb
          simp only [memWfFrom, Bool.and_eq_true, decide_eq_true_eq]
          exact ⟨⟨h, hb⟩, h3⟩
      · simp only [memWfFrom, Bool.and_eq_true, decide_eq_true_eq]
        exact ⟨⟨h1, h2⟩, ih h3 (by omega)⟩

/-- A write keeps the canonical form. -/
theorem memWf_memWrite (a : Nat) (b : Byte) {m : List Host.Cell} (w : memWf d m = true) :
    memWf d (memWrite d m a b) = true := memWfFrom_memWrite b w (Nat.zero_le a)

/-- Writing some bytes keeps the canonical form. -/
theorem memWf_memWriteBytes (a : Nat) (bs : List Byte) {m : List Host.Cell} (w : memWf d m = true) :
    memWf d (memWriteBytes d m a bs) = true := by
  induction bs generalizing a m with
  | nil => exact w
  | cons b bs ih => exact ih (a + 1) (memWf_memWrite a b w)

/-- Leaving out listed bytes keeps the canonical form. -/
theorem memWfFrom_filter {lo : Nat} (p : Host.Cell → Bool) {m : List Host.Cell} (w : memWfFrom d lo m = true) :
    memWfFrom d lo (m.filter p) = true := by
  induction m generalizing lo with
  | nil => exact w
  | cons c m ih =>
    obtain ⟨k, v⟩ := c
    simp only [memWfFrom, Bool.and_eq_true, decide_eq_true_eq] at w
    obtain ⟨⟨h1, h2⟩, h3⟩ := w
    simp only [List.filter]
    split
    · simp only [memWfFrom, Bool.and_eq_true, decide_eq_true_eq]
      exact ⟨⟨h1, h2⟩, ih h3⟩
    · exact ih (memWfFrom_mono (by omega) h3)

/-- An erase keeps the canonical form of the array. -/
theorem memWf_eraseSector (sector : Nat) {m : List Host.Cell} (w : memWf d m = true) :
    memWf d (eraseSector m sector) = true := memWfFrom_filter _ w

/-- The byte written is read back. -/
theorem memRead_memWrite_same {lo : Nat} (a : Nat) (b : Byte) {m : List Host.Cell} (w : memWfFrom d lo m = true) :
    memRead d (memWrite d m a b) a = b := by
  induction m generalizing lo with
  | nil =>
    simp only [memWrite]
    split <;> simp_all [memRead]
  | cons c m ih =>
    obtain ⟨k, v⟩ := c
    simp only [memWfFrom, Bool.and_eq_true, decide_eq_true_eq] at w
    obtain ⟨⟨h1, h2⟩, h3⟩ := w
    simp only [memWrite]
    split
    · rename_i hak
      split
      · rename_i hb
        simp [memRead, hak, hb]
      · simp [memRead]
    · split
      · rename_i hak
        subst hak
        split
        · rename_i hb
          rw [memRead_below h3 (by omega), hb]
        · simp [memRead]
      · rename_i h4 h5
        simp only [memRead]
        rw [if_neg h4, if_neg h5]
        exact ih h3

/-- Every other byte reads as before a write. -/
theorem memRead_memWrite_ne {lo a x : Nat} (b : Byte) {m : List Host.Cell} (w : memWfFrom d lo m = true) (h : x ≠ a) :
    memRead d (memWrite d m a b) x = memRead d m x := by
  induction m generalizing lo with
  | nil =>
    simp only [memWrite]
    split
    · rfl
    · simp [memRead, h]
  | cons c m ih =>
    obtain ⟨k, v⟩ := c
    simp only [memWfFrom, Bool.and_eq_true, decide_eq_true_eq] at w
    obtain ⟨⟨h1, h2⟩, h3⟩ := w
    simp only [memWrite]
    split
    · rename_i hak
      split
      · rfl
      · rcases Nat.lt_or_gt_of_ne h with hx | hx
        · have : x < k := by omega
          simp [memRead, hx, this]
        · have hn : ¬ x < a := by omega
          simp [memRead, hn, h]
    · split
      · rename_i hak
        subst hak
        split
        · rcases Nat.lt_or_gt_of_ne h with hx | hx
          · rw [memRead_below h3 (by omega)]
            simp [memRead, hx]
          · have hn : ¬ x < a := by omega
            simp [memRead, hn, h]
        · simp [memRead, h]
      · simp only [memRead]
        split
        · rfl
        · split
          · rfl
          · exact ih h3

/-- Bytes outside those written read as before. -/
theorem memRead_memWriteBytes_outside {a x : Nat} {bs : List Byte} {m : List Host.Cell} (w : memWf d m = true)
    (h : x < a ∨ a + bs.length ≤ x) : memRead d (memWriteBytes d m a bs) x = memRead d m x := by
  induction bs generalizing a m with
  | nil => rfl
  | cons b bs ih =>
    simp only [List.length_cons] at h
    rw [memWriteBytes, ih (memWf_memWrite a b w) (by omega)]
    exact memRead_memWrite_ne b w (by omega)

/-- Bytes written are read back. -/
theorem memRead_memWriteBytes_inside {a x : Nat} {bs : List Byte} {m : List Host.Cell} (w : memWf d m = true)
    (h : a ≤ x) (h' : x < a + bs.length) : memRead d (memWriteBytes d m a bs) x = bs.getD (x - a) 0 := by
  induction bs generalizing a m with
  | nil => simp only [List.length_nil] at h'; omega
  | cons b bs ih =>
    simp only [List.length_cons] at h'
    rw [memWriteBytes]
    rcases Nat.eq_or_lt_of_le h with rfl | hlt
    · rw [memRead_memWriteBytes_outside (memWf_memWrite a b w) (by omega), memRead_memWrite_same a b w]
      simp
    · rw [ih (memWf_memWrite a b w) (by omega) (by omega)]
      obtain ⟨n, rfl⟩ : ∃ n, x = a + 1 + n := ⟨x - (a + 1), by omega⟩
      have h1 : a + 1 + n - (a + 1) = n := by omega
      have h2 : a + 1 + n - a = n + 1 := by omega
      rw [h1, h2, List.getD_cons_succ]

/-- The bytes written are the bytes read back. -/
theorem memReadBytes_memWriteBytes (a : Nat) (bs : List Byte) {m : List Host.Cell} (w : memWf d m = true) :
    memReadBytes d (memWriteBytes d m a bs) a bs.length = bs := by
  apply List.ext_getElem
  · simp [memReadBytes]
  · intro i h1 h2
    simp only [memReadBytes, List.getElem_map, List.getElem_range]
    rw [memRead_memWriteBytes_inside w (by omega) (by omega)]
    have h3 : a + i - a = i := by omega
    rw [h3, List.getD_eq_getElem?_getD, List.getElem?_eq_getElem h2, Option.getD_some]

/-- Bytes clear of those written are read as before. -/
theorem memReadBytes_memWriteBytes_outside {a x n : Nat} {bs : List Byte} {m : List Host.Cell} (w : memWf d m = true)
    (h : x + n ≤ a ∨ a + bs.length ≤ x) :
    memReadBytes d (memWriteBytes d m a bs) x n = memReadBytes d m x n := by
  unfold memReadBytes
  apply List.map_congr_left
  intro i hi
  rw [List.mem_range] at hi
  exact memRead_memWriteBytes_outside w (by omega)

end Sys2Proof.Machine
end

