-- ==== Sys2Proof/Laws/Selection.lean ====
section
/-! SUPPORT. What a switch-over and source selection can do to a bay record, and that they keep the latch-open flag with a FEEDING bay. -/

namespace Sys2Proof.Machine

variable {s : State}

/-- Bay `b`'s record as it leaves the feeding set (R13, R39). -/
abbrev Bay.left (x : Bay) : Bay :=
  { x with
    state := if x.latchOpen then .releasing else .ready
    prior := if x.latchOpen then some .ready else none
    priorRel := none
    depleted := x.depletedIn
    latchOpen := false
    chargeSel := x.chargeSel && !x.latchOpen }

/-- Bay `b`'s record as it joins the feeding set (R9, R13, R20). -/
abbrev Bay.joined (x : Bay) : Bay :=
  { x with
    state := .feeding, prior := none, priorRel := none, depleted := x.depletedIn, chargeSel := false, prepTimer := none }

/-- Only the member of the feeding set leaves it. -/
theorem leaveSet_bay (b : BayId) : (leaveSet s).bay b =
    if s.src.feeding = b.feed ∧ (s.bay b).state = .feeding then (s.bay b).left else s.bay b := by
  unfold leaveSet
  cases hf : s.src.feeding <;> cases b <;> simp [Feed.bay, BayId.feed]
  all_goals
    (repeat' split) <;> simp_all [State.bay, State.setBay, State.touch, enterReady, enterReleasing, Bay.left, Bay.depletedIn] <;> rfl

/-- A bay record changes by joining only where the bay is the source that joins. -/
theorem joinSet_bay (f : Feed) (b : BayId) :
    (joinSet f s).bay b = if f = b.feed then (s.bay b).joined else s.bay b := by
  cases f <;> cases b <;> simp [joinSet, joinSet.joinBay, State.bay, State.setBay, BayId.feed]

/-- Charge selection changes no bay record but for charge select. -/
theorem selectCharge_bay (b : BayId) : ∃ on, (selectCharge s).bay b = { s.bay b with chargeSel := on } := by
  have h (c : BayId) (x : Bool) (u : State) : ∃ on, (setCharge c x u).bay b = { u.bay b with chargeSel := on } := by
    unfold setCharge
    split
    · exact ⟨_, rfl⟩
    · cases b <;> cases c <;> exact ⟨_, rfl⟩
  unfold selectCharge
  split
  · obtain ⟨x, hx⟩ := h .bayB false (setCharge .bayA false s)
    obtain ⟨y, hy⟩ := h .bayA false s
    exact ⟨x, by rw [hx, hy]⟩
  · split
    · exact ⟨_, rfl⟩
    · split
      · exact ⟨_, rfl⟩
      · exact h _ _ _

/-- The power state's update reads no bay record back, and leaves the feeding set (R14). -/
theorem updatePower_bays (c : HoldupCause) (again : Bool) :
    (updatePower c again s).src.bayA = s.src.bayA ∧ (updatePower c again s).src.bayB = s.src.bayB
      ∧ (updatePower c again s).src.feeding = s.src.feeding := by
  simp only [updatePower]
  (repeat' split) <;> simp [enterExhausted]

/-- A switch-over to `f`: the member leaves, `f` joins, and no bay record changes otherwise but for charge select
(R13). -/
theorem switchOver_bay (f : Feed) (b : BayId) :
    ∃ on, (switchOver f s).bay b = { (joinSet f (leaveSet s)).bay b with chargeSel := on } := by
  obtain ⟨on, h⟩ := selectCharge_bay (s := evalBrChg (updateRide s.src.power (updatePower (emptyCause s.src.power)
    (s.src.feeding.bay.isSome || f.bay.isSome) (emptyWindow ((joinSet f (leaveSet s)).touch .power))))) b
  refine ⟨on, ?_⟩
  have e : ∀ u : State, (evalBrChg (updateRide s.src.power u)).bay b = u.bay b := by
    intro u
    simp only [evalBrChg, updateRide]
    split <;> cases b <;> simp [State.bay]
  have hp := updatePower_bays (s := emptyWindow ((joinSet f (leaveSet s)).touch .power)) (emptyCause s.src.power)
    (s.src.feeding.bay.isSome || f.bay.isSome)
  simp only [switchOver, h, e]
  cases b <;> simp [State.bay, hp.1, hp.2.1]

/-- A switch-over to `f` leaves `f` in the feeding set (R13). -/
theorem switchOver_feeding (f : Feed) : (switchOver f s).src.feeding = f := by
  have hc (u : State) : (selectCharge u).src.feeding = u.src.feeding := by
    simp only [selectCharge, setCharge]
    (repeat' split) <;> simp
  have hu (u : State) (p : PowerState) : (evalBrChg (updateRide p u)).src.feeding = u.src.feeding := by
    simp only [evalBrChg, updateRide]
    split <;> simp
  simp only [switchOver, hc, hu, (updatePower_bays _ _).2.2, emptyWindow_frame, State.touch_src]
  cases f <;> simp [joinSet, joinSet.joinBay]

/-- Emergency re-engagement of bay `c` changes the bays and the feeding set as a switch-over to it (R46). -/
theorem reengage_bay (b c : BayId) :
    (reengage c s).bay b = (switchOver c.feed s).bay b ∧ (reengage c s).src.feeding = c.feed := by
  have h : (reengage c s).src = (switchOver c.feed s).src := by simp [reengage]
  exact ⟨by cases b <;> simp [State.bay, h], by rw [h, switchOver_feeding]⟩

/-- What source selection can do (R16 to R18, R46): nothing to any bay and the feeding set, or what a switch-over to some
`f` does, where a bay that joins is one that may feed: it is the target, or it is re-engaged. -/
theorem runSelection_cases :
    ((∀ b, (runSelection s).bay b = s.bay b) ∧ (runSelection s).src.feeding = s.src.feeding)
      ∨ ∃ f, (∀ b, (runSelection s).bay b = (switchOver f s).bay b) ∧ (runSelection s).src.feeding = f
        ∧ (f = s.target ∧ f ≠ s.src.feeding ∨ f = .empty ∨ ∃ c, f = BayId.feed c ∧ s.reengageChoice = some c) := by
  unfold runSelection
  split
  · exact .inl ⟨fun _ => rfl, rfl⟩
  next h =>
    split
    · unfold noSource
      cases hr : s.reengageChoice with
      | some c => exact .inr ⟨c.feed, fun b => (reengage_bay b c).1, (reengage_bay c c).2, .inr (.inr ⟨c, rfl, rfl⟩)⟩
      | none =>
        simp only
        split
        · exact .inl ⟨fun _ => rfl, rfl⟩
        · exact .inr ⟨.empty, fun _ => rfl, switchOver_feeding _, .inr (.inl rfl)⟩
    · split
      · exact .inr ⟨s.target, fun _ => rfl, switchOver_feeding _, .inl ⟨rfl, h⟩⟩
      · exact .inl ⟨fun b => by cases b <;> rfl, rfl⟩

/-- A FEEDING bay is the member of the feeding set (R13), and a bay with its latch-open flag set is FEEDING (R38): what
holds at every point of an event at which selection runs. -/
abbrev State.Latched (s : State) : Prop :=
  (∀ b, (s.bay b).state = .feeding → s.src.feeding = b.feed) ∧ ∀ b, (s.bay b).latchOpen = true → (s.bay b).state = .feeding

/-- A switch-over keeps the latch-open flag with a FEEDING bay, the member of the feeding set (R13, R39). -/
theorem switchOver_latched (f : Feed) (h : s.Latched) : (switchOver f s).Latched := by
  have key (b : BayId) : ∃ on, (switchOver f s).bay b = { (if f = b.feed then
      (if s.src.feeding = b.feed ∧ (s.bay b).state = .feeding then (s.bay b).left else s.bay b).joined
      else if s.src.feeding = b.feed ∧ (s.bay b).state = .feeding then (s.bay b).left else s.bay b) with
        chargeSel := on } := by
    obtain ⟨on, e⟩ := switchOver_bay (s := s) f b
    exact ⟨on, by rw [e, joinSet_bay, leaveSet_bay]⟩
  constructor
  · intro b hb
    rw [switchOver_feeding]
    obtain ⟨on, e⟩ := key b
    by_contra hf
    have hin := h.1 b
    rw [e, if_neg hf] at hb
    split at hb
    · cases hl : (s.bay b).latchOpen <;> simp [hl] at hb
    · simp_all
  · intro b hb
    obtain ⟨on, e⟩ := key b
    have hin := h.2 b
    rw [e] at hb ⊢
    by_cases hf : f = b.feed
    · simp only [if_pos hf]
    · rw [if_neg hf] at hb ⊢
      split at hb <;> simp_all

/-- Source selection keeps the latch-open flag with a FEEDING bay, the member of the feeding set (R18, R39). -/
theorem runSelection_latched (h : s.Latched) : (runSelection s).Latched := by
  obtain ⟨hb, hf⟩ | ⟨f, hb, hf, -⟩ := runSelection_cases (s := s)
  · exact ⟨fun b => by rw [hb, hf]; exact h.1 b, fun b => by rw [hb]; exact h.2 b⟩
  · have hs := switchOver_latched f h
    exact ⟨fun b h => by rw [hf, ← hs.1 b (hb b ▸ h), switchOver_feeding], fun b => by rw [hb]; exact hs.2 b⟩

/-- A bay in SWAP_PREPARED, READY or FEEDING with its latch-open flag clear stays so over source selection. -/
theorem runSelection_released {b : BayId} (ho : (s.bay b).latchOpen = false)
    (hs : (s.bay b).state = .swapPrepared ∨ (s.bay b).state = .ready ∨ (s.bay b).state = .feeding) :
    ((runSelection s).bay b).latchOpen = false ∧ (((runSelection s).bay b).state = .swapPrepared
      ∨ ((runSelection s).bay b).state = .ready ∨ ((runSelection s).bay b).state = .feeding) := by
  obtain ⟨hb, -⟩ | ⟨f, hb, -, -⟩ := runSelection_cases (s := s)
  · rw [hb]
    exact ⟨ho, hs⟩
  · obtain ⟨on, e⟩ := switchOver_bay (s := s) f b
    rw [hb, e, joinSet_bay, leaveSet_bay]
    split <;> split <;> simp [ho, hs]

end Sys2Proof.Machine
end

