-- ==== Sys2Proof/Tests/Slice0.lean ====
section
/-! SUPPORT. Witnesses of the statements' hypotheses, smoke tests of the well-formedness check, and the spec's worked numbers. -/

namespace Sys2Proof.Tests

open Sys2Proof Sys2Proof.Machine

/-! ## Small states -/

/-- A part at work with nothing to do: the link is up, the scan is over, part time 100,000. -/
def live : State :=
  { State.reset with link.up := true, hist.scanning := false, hist.list := [], time := 100000 }

/-- Entry 0 filled by the host with request kind `kind` and arguments `args`. -/
def posted (kind : Nat) (args : List Byte) (s : State) : State := (s.xwrite 0x0102 (le 2 kind)).xwrite 0x0108 args

/-- A 64-byte slot image. -/
def image : List Byte := List.replicate 64 0x5A

/-- A gauge record at half charge. -/
def record : GaugeRec where
  remaining := 10800000
  full := 21600000
  sub := 0
  drawn := 0
  learn := false
  soc := 50
  armed := true
  satCount := 0
  residual := 0

/-- A HOST group in its on time. -/
def hostOn : Group :=
  { cls := .host, count := 3, onMs := 50, offMs := 60, completed := 2, phaseOn := true, phaseStart := 0, entry := some 0,
    flags := 0 }

/-- The same group in its last off time. -/
def hostOff : Group := { hostOn with completed := 3, phaseOn := false }

/-- A NOTE of entry 1 that waits for the array. -/
def noteWaits : Note := { record := { HistRecord.restart [] with kind := .note }, started := false, entry := some 1 }

/-- The same NOTE with its first try begun. -/
def noteStarted : Note := { noteWaits with started := true }

/-- A fall record under construction. -/
def fall : Fall where
  sequence := 1
  startSlot := 0
  time := 0
  clock := 0
  clockSet := false
  power := .pack
  f := 44
  i := 500
  settle := 250
  alert := 500
  outcome := some .impact
  outcomeSlot := 100
  caught := 39
  settleTimer := { start := 0, len := 250 }
  peak := 0
  peakAt := { x := 0, y := 0, z := 0 }
  settleLost := false

/-- A power round with no current. -/
def round (mvA mvB mvBridge mvDc : Nat) : Round :=
  { mvA := mvA, codeA := 0, mvB := mvB, codeB := 0, mvBridge := mvBridge, mvDc := mvDc }

/-- A part at the end of its scan: the record of sequence `seq` in slot `slot` of sector 2, above the cells `more`. -/
def scanOf (slot seq : Nat) (more : List Host.Cell) : State :=
  { live with
    hist.scanning := true
    hist.list := [HistRecord.restart []]
    hist.array := memWriteBytes arrayDefault more (slotAddr 2 slot) (recordImage (HistRecord.restart []) seq false) }

/-! ## The hypotheses of every statement can be met, clause by clause -/

theorem witness_LinkStartFillsExchange :
    (∃ (s : State), s.Live ∧ s.link.up = false)
    ∧ (∃ (s : State), s.Live ∧ s.link.up = true) :=
  ⟨⟨{ live with link.up := false }, by (repeat' apply And.intro) <;> decide⟩,
    ⟨live, by (repeat' apply And.intro) <;> decide⟩⟩

theorem witness_SupplyLossCutsOperation :
    (∃ (s : State), s.powered = true ∧ s.hist.op = .idle)
    ∧ (∃ (sector : Nat) (slot : Nat) (seq : Nat) (image : List Byte) (s : State), s.powered = true ∧ memWf arrayDefault s.hist.array = true ∧ s.hist.op = .program sector slot seq image ∧ sector < 63 ∧ slot < 32 ∧ image.length = 64)
    ∧ (∃ (sector : Nat) (attempt : Nat) (start : Time) (s : State), s.powered = true ∧ memWf arrayDefault s.hist.array = true ∧ s.hist.op = .erase sector attempt start ∧ sector < 63)
    ∧ (∃ (b : Nat) (attempt : Nat) (oldB : Nat) (s : State), s.powered = true ∧ s.hist.op = .boundary b attempt oldB ∧ 8 ≤ b ∧ b ≤ boundaryOf s.hist.marks) :=
  ⟨⟨live, by (repeat' apply And.intro) <;> decide⟩,
    ⟨62, 31, 7, image, { live with hist.op := .program 62 31 7 image }, by (repeat' apply And.intro) <;> decide⟩,
    ⟨62, 1, 0, { live with hist.op := .erase 62 1 0 }, by (repeat' apply And.intro) <;> decide⟩,
    ⟨8, 1, 63, { live with hist.op := .boundary 8 1 63 }, by (repeat' apply And.intro) <;> decide⟩⟩

theorem witness_PlatformAndLinkReset :
    (∃ (s : State), s.Live ∧ s.link.platformLow = false)
    ∧ (∃ (s : State), s.Live ∧ s.link.platformLow = true ∧ s.req.intake = [])
    ∧ (∃ (s : State), s.Live ∧ s.link.platformLow = true)
    ∧ (∃ (s : State), s.Live ∧ s.link.platformLow = false)
    ∧ (∃ (s : State), s.powered = false)
    ∧ (∃ (s : State), s.powered = false)
    ∧ (∃ (s : State), s.hostServed = true ∧ s.Live) :=
  ⟨⟨live, by (repeat' apply And.intro) <;> decide⟩,
    ⟨{ live with link.platformLow := true }, by (repeat' apply And.intro) <;> decide⟩,
    ⟨{ live with link.platformLow := true }, by (repeat' apply And.intro) <;> decide⟩,
    ⟨live, by (repeat' apply And.intro) <;> decide⟩,
    ⟨{ live with powered := false }, by decide⟩,
    ⟨{ live with powered := false, link.platformLow := true }, by decide⟩,
    ⟨live, by (repeat' apply And.intro) <;> decide⟩⟩

theorem witness_RegistersAct :
    ∃ (en : BitVec 2) (s : State), s.hostServed = true ∧ s.Live ∧ en ≠ 0 :=
  ⟨1, live, by (repeat' apply And.intro) <;> decide⟩

theorem witness_HostWriteStores :
    ∃ (off : BitVec 13) (en : BitVec 2) (s : State), s.hostServed = true ∧ s.Live ∧ s.QueueLaw ∧ s.HostOwned off.toNat ∧ en ≠ 0 :=
  ⟨0x1FFE, 2, live, by (repeat' apply And.intro) <;> decide⟩

theorem witness_RefusedWriteIsDropped :
    (∃ (off : BitVec 13) (w : Half) (en : BitVec 2) (s : State), s.hostServed = true ∧ s.Live ∧ s.RefusedWrite off.toNat w en)
    ∧ (∃ (e : EntryId) (s : State), s.hostServed = true ∧ s.Live ∧ s.entry e ≠ .posted)
    ∧ (∃ (e : EntryId) (s : State), s.hostServed = true ∧ s.Live ∧ s.entry e ≠ .done) :=
  ⟨⟨0x00FE, 1, 1, live, by (repeat' apply And.intro) <;> decide⟩,
    ⟨15, live, by (repeat' apply And.intro) <;> decide⟩,
    ⟨15, live, by (repeat' apply And.intro) <;> decide⟩⟩

theorem witness_WithdrawAndGiveBack :
    (∃ (e : EntryId) (s : State), s.hostServed = true ∧ s.Live ∧ s.entry e = .posted)
    ∧ (∃ (e : EntryId) (s : State), s.hostServed = true ∧ s.Live ∧ s.entry e = .done)
    ∧ (∃ (k : ReqKind) (u : UnitId) (e : EntryId) (s : State), s.Postable (some k) e ∧ k.unit = some u ∧ s.busy u = true)
    ∧ (∃ (g : Group) (e : EntryId) (y : EntryId) (older : List EntryId) (younger : List EntryId) (s : State), s.Live ∧ s.QueueLaw ∧ s.drv.active = some g ∧ g.phaseOn = false ∧ g.offMs ≤ (s.time - g.phaseStart).toNat ∧ g.completed = g.count ∧ g.entry = some e ∧ s.req.actDisplay = some e ∧ s.bright.staged = none ∧ s.drv.waitSwap = none ∧ s.drv.waitDrop = none ∧ s.drv.waitHost = none ∧ s.req.intake = older ++ y :: younger ∧ (∀ x ∈ older, s.unitOf x ≠ some .display) ∧ reqKindOf (s.kindCode y) = some .indicatorPulse)
    ∧ (∃ (e : EntryId) (y : EntryId) (older : List EntryId) (younger : List EntryId) (s : State), s.Live ∧ s.QueueLaw ∧ s.src.prep.pending = true ∧ s.src.prep.request = some e ∧ s.req.actPower = some e ∧ s.src.prep.latchNote = false ∧ (s.bay s.src.prep.bay).state = .empty ∧ s.req.intake = older ++ y :: younger ∧ (∀ x ∈ older ++ younger, s.unitOf x ≠ some .power) ∧ reqKindOf (s.kindCode y) = some .setPackWarn ∧ 1 ≤ s.arg y 0 1 ∧ s.arg y 0 1 ≤ 50) :=
  ⟨⟨15, { live with req.entries := live.req.entries.set 15 .posted, req.intake := [15], req.actPower := some 1 }, by (repeat' apply And.intro) <;> decide⟩,
    ⟨15, { live with req.entries := live.req.entries.set 15 .done }, by (repeat' apply And.intro) <;> decide⟩,
    ⟨.indicatorPulse, .display, 0, posted 0x24 [] { live with req.entries := live.req.entries.set 1 .active, req.actDisplay := some 1 }, by (repeat' apply And.intro) <;> decide⟩,
    ⟨{ hostOff with phaseStart := live.time - 60 }, 0, 1, [2], [], { (live.xwrite 0x0142 [0x24]).xwrite 0x0182 [0x14] with req.entries := (((live.req.entries.set 0 .active).set 1 .posted).set 2 .posted).set 3 .active, req.intake := [2, 1], req.actDisplay := some 0, req.actPower := some 3, drv.active := some { hostOff with phaseStart := live.time - 60 } }, by (repeat' apply And.intro) <;> decide⟩,
    ⟨0, 1, [], [], { (live.xwrite 0x0142 [0x14]).xwrite 0x0148 [50] with req.entries := (live.req.entries.set 0 .active).set 1 .posted, req.intake := [1], req.actPower := some 0, src.prep := { pending := true, bay := .bayA, latchNote := false, request := some 0, since := 0 } }, by (repeat' apply And.intro) <;> decide⟩⟩

theorem witness_NoticesRaisedAndConsumed :
    ∃ (s : State), s.hostServed = true ∧ s.Live :=
  ⟨live, by (repeat' apply And.intro) <;> decide⟩

theorem witness_BadKindAndRouteAnswered :
    (∃ (e : EntryId) (s : State), s.Postable none e)
    ∧ (∃ (e : EntryId) (s : State), s.Postable (some .noticeRoute) e ∧ (22 < s.arg e 0 1 ∨ 1 < s.arg e 1 1 ∨ 1 < s.arg e 2 1))
    ∧ (∃ (e : EntryId) (k : Fin 23) (s : State), s.Postable (some .noticeRoute) e ∧ s.arg e 0 1 = k.val ∧ s.arg e 1 1 ≤ 1 ∧ s.arg e 2 1 ≤ 1) :=
  ⟨⟨0, posted 0 [] live, by (repeat' apply And.intro) <;> decide⟩,
    ⟨0, posted 3 [23, 0, 0] live, by (repeat' apply And.intro) <;> decide⟩,
    ⟨0, 22, posted 3 [22, 1, 1] live, by (repeat' apply And.intro) <;> decide⟩⟩

theorem witness_SetupJudged :
    (∃ (e : EntryId) (s : State), s.Postable (some .setup) e ∧ s.link.setupTaken = true)
    ∧ (∃ (e : EntryId) (s : State), s.Postable (some .setup) e ∧ s.link.setupTaken = false ∧ (1 < s.arg e 2 1 ∨ 1 < s.arg e 3 1))
    ∧ (∃ (e : EntryId) (s : State), s.Postable (some .setup) e ∧ s.link.setupTaken = false ∧ s.arg e 2 1 ≤ 1 ∧ s.arg e 3 1 ≤ 1 ∧ (∀ r ∈ s.gauge.recA, r.Law (s.askedSetup e).nominal) ∧ (∀ r ∈ s.gauge.recB, r.Law (s.askedSetup e).nominal) ∧ s.CompareLaw ∧ s.DarkLaw)
    ∧ (∃ (e : EntryId) (s : State), s.Postable (some .setup) e ∧ s.link.setupTaken = false ∧ s.arg e 2 1 ≤ 1 ∧ s.arg e 3 1 ≤ 1 ∧ (s.askedSetup e).nominal ≠ s.setup.nominal) :=
  ⟨⟨0, { posted 1 [0x58, 0x02, 1, 1, 2, 3, 200, 0, 0x70, 0x17, 120, 0, 60, 0] live with link.setupTaken := true }, by (repeat' apply And.intro) <;> decide⟩,
    ⟨0, posted 1 [0, 0, 2, 0] live, by (repeat' apply And.intro) <;> decide⟩,
    ⟨0, posted 1 [0x58, 0x02, 1, 1, 2, 3, 200, 0, 0x70, 0x17, 120, 0, 60, 0] live, by (repeat' apply And.intro) <;> decide⟩,
    ⟨0, posted 1 [0, 0, 1, 1, 0, 0, 0, 0, 0, 0] live, by (repeat' apply And.intro) <;> decide⟩⟩

/-- The part in RUN at level 500 before its first SETUP: the backlight is DARK. -/
def unconfigured : State :=
  { live with
    src.sysState := .run
    drv.sys := .run
    drv.levelZero := false
    drv.nextCompare := 300
    bright.ceiling := 700
    bright.current := 500
    bright.compare := 300 }

/-- The same part after its first SETUP: frames run. -/
def lit : State :=
  { unconfigured with drv.configured := true, drv.state := .framing, drv.activeCompare := 300 }

/-- The accepted SETUP's premises are met with on-delay 0 and a changed compare, from DARK and from FRAMING. -/
theorem witness_SetupJudged_lit :
    ∀ u ∈ [unconfigured, lit], ∃ (e : EntryId) (s : State), s.drv = u.drv ∧ s.Postable (some .setup) e
      ∧ s.link.setupTaken = false ∧ s.arg e 2 1 ≤ 1 ∧ s.arg e 3 1 ≤ 1
      ∧ (∀ r ∈ s.gauge.recA, r.Law (s.askedSetup e).nominal) ∧ (∀ r ∈ s.gauge.recB, r.Law (s.askedSetup e).nominal)
      ∧ s.CompareLaw ∧ s.DarkLaw ∧ (s.askedSetup e).onDelay = 0
      ∧ compareOf s.bright.current (s.askedSetup e).period (s.askedSetup e).minOn ≠ s.bright.compare := by
  intro u hu
  refine ⟨0, posted 1 [0xF0, 0, 0, 1, 2, 3, 0, 0, 0x70, 0x17, 120, 0, 60, 0] u, ?_⟩
  simp only [List.mem_cons, List.not_mem_nil, or_false] at hu
  obtain rfl | rfl := hu <;> (repeat' apply And.intro) <;> decide

theorem witness_SetClockHandsRecord :
    (∃ (e : EntryId) (s : State), s.Postable (some .setClock) e ∧ s.Room 1)
    ∧ (∃ (e : EntryId) (s : State), s.Postable (some .setClock) e ∧ s.hist.fault = none ∧ s.hist.op = .idle ∧ s.hist.scanning = false ∧ s.hist.tries = 0 ∧ slotErased (s.hist.slotBytes s.hist.headSector s.hist.headSlot) = true)
    ∧ (∃ (e : EntryId) (s : State), s.Postable (some .setClock) e ∧ s.hist.fault.isSome = true)
    ∧ (∃ (e : EntryId) (s : State), s.Postable (some .setClock) e ∧ s.hist.fault = none ∧ 8 ≤ s.hist.list.length) :=
  ⟨⟨0, posted 2 [] { live with hist.op := .erase 0 1 0, hist.list := List.replicate 7 (HistRecord.restart []) }, by (repeat' apply And.intro) <;> decide⟩,
    ⟨0, posted 2 [] live, by (repeat' apply And.intro) <;> decide⟩,
    ⟨0, posted 2 [] { live with hist.fault := some .erase }, by (repeat' apply And.intro) <;> decide⟩,
    ⟨0, posted 2 [] { live with hist.op := .erase 0 1 0, hist.list := List.replicate 8 (HistRecord.restart []) }, by (repeat' apply And.intro) <;> decide⟩⟩

theorem witness_CancelJudgesTarget :
    (∃ (e : EntryId) (s : State), s.Postable (some .cancel) e ∧ (15 < s.arg e 0 1 ∨ s.arg e 0 1 = e.val))
    ∧ (∃ (e : EntryId) (x : EntryId) (s : State), s.Postable (some .cancel) e ∧ s.arg e 0 1 = x.val ∧ x ≠ e ∧ (s.entry x = .free ∨ s.entry x = .done))
    ∧ (∃ (e : EntryId) (x : EntryId) (s : State), s.Postable (some .cancel) e ∧ s.arg e 0 1 = x.val ∧ s.entry x = .posted)
    ∧ (∃ (e : EntryId) (x : EntryId) (s : State), s.Postable (some .cancel) e ∧ s.arg e 0 1 = x.val ∧ s.entry x = .active ∧ reqKindOf (s.kindCode x) ≠ some .indicatorPulse ∧ reqKindOf (s.kindCode x) ≠ some .historyAppendNote) :=
  ⟨⟨0, posted 4 [16] live, by (repeat' apply And.intro) <;> decide⟩,
    ⟨0, 15, posted 4 [15] live, by (repeat' apply And.intro) <;> decide⟩,
    ⟨0, 15, posted 4 [15] { live with req.entries := (live.req.entries.set 15 .posted).set 1 .active, req.intake := [15], req.actPower := some 1 }, by (repeat' apply And.intro) <;> decide⟩,
    ⟨0, 15, posted 4 [15] { live with req.entries := live.req.entries.set 15 .active, req.actPower := some 15 }, by (repeat' apply And.intro) <;> decide⟩⟩

theorem witness_CancelEndsPulseOrNote :
    (∃ (e : EntryId) (x : EntryId) (g : Group) (s : State), s.Postable (some .cancel) e ∧ s.arg e 0 1 = x.val ∧ s.req.actDisplay = some x ∧ s.req.intake = [] ∧ reqKindOf (s.kindCode x) = some .indicatorPulse ∧ s.drv.waitHost = some g ∧ g.entry = some x)
    ∧ (∃ (e : EntryId) (x : EntryId) (g : Group) (s : State), s.Postable (some .cancel) e ∧ s.arg e 0 1 = x.val ∧ s.req.actDisplay = some x ∧ s.req.intake = [] ∧ reqKindOf (s.kindCode x) = some .indicatorPulse ∧ s.drv.waitHost = none ∧ s.drv.active = some g ∧ g.cls = .host ∧ g.entry = some x)
    ∧ (∃ (e : EntryId) (x : EntryId) (n : Note) (s : State), s.Postable (some .cancel) e ∧ s.arg e 0 1 = x.val ∧ s.req.actHistory = some x ∧ s.req.intake = [] ∧ reqKindOf (s.kindCode x) = some .historyAppendNote ∧ s.hist.note = some n ∧ n.started = false)
    ∧ (∃ (e : EntryId) (x : EntryId) (n : Note) (s : State), s.Postable (some .cancel) e ∧ s.arg e 0 1 = x.val ∧ s.entry x = .active ∧ reqKindOf (s.kindCode x) = some .historyAppendNote ∧ s.hist.note = some n ∧ n.started = true) :=
  ⟨⟨0, 1, { hostOn with entry := some 1 }, (({ posted 4 [1] live with req.entries := live.req.entries.set 1 .active, req.actDisplay := some 1, drv.waitHost := some { hostOn with entry := some 1 } } : State).xwrite 0x0142 [0x24]), by (repeat' apply And.intro) <;> decide⟩,
    ⟨0, 1, { hostOn with entry := some 1 }, (({ posted 4 [1] live with req.entries := live.req.entries.set 1 .active, req.actDisplay := some 1, drv.active := some { hostOn with entry := some 1 } } : State).xwrite 0x0142 [0x24]), by (repeat' apply And.intro) <;> decide⟩,
    ⟨0, 1, noteWaits, (({ posted 4 [1] live with req.entries := live.req.entries.set 1 .active, req.actHistory := some 1, hist.note := some noteWaits, hist.op := .erase 0 1 0 } : State).xwrite 0x0142 [0x40]), by (repeat' apply And.intro) <;> decide⟩,
    ⟨0, 1, noteStarted, (({ posted 4 [1] live with req.entries := live.req.entries.set 1 .active, req.actHistory := some 1, hist.note := some noteStarted, hist.op := .program 0 0 1 image } : State).xwrite 0x0142 [0x40]), by (repeat' apply And.intro) <;> decide⟩⟩

theorem witness_PolicyAndWarnSet :
    (∃ (e : EntryId) (s : State), s.Taken .setSourcePolicy e ∧ 2 < s.arg e 0 1)
    ∧ (∃ (e : EntryId) (p : Policy) (s : State), s.Taken .setSourcePolicy e ∧ s.arg e 0 1 = p.code ∧ p = s.src.policy)
    ∧ (∃ (e : EntryId) (p : Policy) (s : State), s.Taken .setSourcePolicy e ∧ s.arg e 0 1 = p.code ∧ p ≠ s.src.policy ∧ s.Fed)
    ∧ (∃ (e : EntryId) (s : State), s.Taken .setPackWarn e) :=
  ⟨⟨0, posted 0x10 [3] live, by (repeat' apply And.intro) <;> decide⟩,
    ⟨0, .drainLower, posted 0x10 [1] live, by (repeat' apply And.intro) <;> decide⟩,
    ⟨0, .balanced, posted 0x10 [2] { live with src.dcPresent := true, src.feeding := .dc, src.power := .dc }, by (repeat' apply And.intro) <;> decide⟩,
    ⟨0, posted 0x14 [51] live, by (repeat' apply And.intro) <;> decide⟩⟩

theorem witness_SwapPrepareJudged :
    (∃ (e : EntryId) (s : State), s.Taken .swapPrepare e ∧ 1 < s.arg e 0 1)
    ∧ (∃ (e : EntryId) (b : BayId) (s : State), s.Taken .swapPrepare e ∧ s.arg e 0 1 = b.code ∧ (s.bay b).state ≠ .ready ∧ (s.bay b).state ≠ .feeding)
    ∧ (∃ (e : EntryId) (b : BayId) (s : State), s.Taken .swapPrepare e ∧ s.arg e 0 1 = b.code ∧ (s.bay b).state = .feeding ∧ ((s.bay b).latchOpen = true ∨ ¬s.hasAlternative b))
    ∧ (∃ (e : EntryId) (b : BayId) (s : State), s.Taken .swapPrepare e ∧ s.arg e 0 1 = b.code ∧ (s.bay b).state = .feeding ∧ (s.bay b).latchOpen = false ∧ s.hasAlternative b)
    ∧ (∃ (e : EntryId) (b : BayId) (s : State), s.Taken .swapPrepare e ∧ s.arg e 0 1 = b.code ∧ (s.bay b).state = .ready ∧ s.NoHostDisplaced ∧ s.src.feeding ≠ b.feed ∧ s.Fed)
    ∧ (∃ (e : EntryId) (x : EntryId) (b : BayId) (g : Group) (s : State), s.Taken .swapPrepare e ∧ s.arg e 0 1 = b.code ∧ (s.bay b).state = .ready ∧ s.drv.active = some g ∧ g.cls = .host ∧ g.entry.isSome = true ∧ s.req.actDisplay = some x ∧ (∀ y ∈ s.req.intake, s.unitOf y ≠ some .display) ∧ s.src.feeding ≠ b.feed ∧ s.Fed)
    ∧ (∃ (e : EntryId) (b : BayId) (s : State), s.Taken .swapPrepare e ∧ s.arg e 0 1 = b.code ∧ (s.bay b).state = .ready) :=
  ⟨⟨0, posted 0x11 [2] live, by (repeat' apply And.intro) <;> decide⟩,
    ⟨0, .bayB, posted 0x11 [1] live, by (repeat' apply And.intro) <;> decide⟩,
    ⟨0, .bayA, posted 0x11 [0] { live with src.bayA.state := .feeding, src.feeding := .bayA, src.power := .pack }, by (repeat' apply And.intro) <;> decide⟩,
    ⟨0, .bayA, posted 0x11 [0] { live with src.bayA.state := .feeding, src.feeding := .bayA, src.power := .pack, src.bayB.state := .ready }, by (repeat' apply And.intro) <;> decide⟩,
    ⟨0, .bayB, posted 0x11 [1] { live with src.bayA.state := .feeding, src.feeding := .bayA, src.power := .pack, src.bayA.latchOpen := true, src.bayB.state := .ready, src.bayB.depleted := true, src.bayB.present.acc := true, src.bayB.latch.acc := true }, by (repeat' apply And.intro) <;> decide⟩,
    ⟨0, 1, .bayB, { hostOn with entry := some 1 }, posted 0x11 [1] { live with src.bayB.state := .ready, drv.active := some { hostOn with entry := some 1 }, req.actDisplay := some 1, req.entries := live.req.entries.set 1 .active }, by (repeat' apply And.intro) <;> decide⟩,
    ⟨0, .bayB, posted 0x11 [1] { live with src.bayB.state := .ready }, by (repeat' apply And.intro) <;> decide⟩⟩

theorem witness_SwapAbortJudged :
    (∃ (e : EntryId) (s : State), s.Taken .swapAbort e ∧ 1 < s.arg e 0 1)
    ∧ (∃ (e : EntryId) (b : BayId) (s : State), s.Taken .swapAbort e ∧ s.arg e 0 1 = b.code ∧ (s.bay b).state ≠ .swapPrepared ∧ ¬((s.bay b).state = .releasing ∧ (s.bay b).prior = some .swapPrepared))
    ∧ (∃ (e : EntryId) (b : BayId) (s : State), s.Taken .swapAbort e ∧ s.arg e 0 1 = b.code ∧ (s.bay b).state = .releasing ∧ (s.bay b).prior = some .swapPrepared ∧ (s.bay b).priorRel = none)
    ∧ (∃ (e : EntryId) (b : BayId) (s : State), s.Taken .swapAbort e ∧ s.arg e 0 1 = b.code ∧ (s.bay b).state = .swapPrepared ∧ s.Fed) :=
  ⟨⟨0, posted 0x12 [2] live, by (repeat' apply And.intro) <;> decide⟩,
    ⟨0, .bayB, posted 0x12 [1] live, by (repeat' apply And.intro) <;> decide⟩,
    ⟨0, .bayB, posted 0x12 [1] { live with src.bayB.state := .releasing, src.bayB.prior := some .swapPrepared }, by (repeat' apply And.intro) <;> decide⟩,
    ⟨0, .bayB, posted 0x12 [1] { live with src.bayB.state := .swapPrepared }, by (repeat' apply And.intro) <;> decide⟩⟩

theorem witness_PackCapacitySet :
    (∃ (e : EntryId) (s : State), s.Taken .packSetCapacity e ∧ 1 < s.arg e 0 1)
    ∧ (∃ (e : EntryId) (b : BayId) (s : State), s.Taken .packSetCapacity e ∧ s.arg e 0 1 = b.code ∧ (s.gaugeRec b = none ∨ (s.bay b).state = .held))
    ∧ (∃ (e : EntryId) (b : BayId) (r : GaugeRec) (s : State), s.Taken .packSetCapacity e ∧ s.arg e 0 1 = b.code ∧ s.gaugeRec b = some r ∧ (s.bay b).state ≠ .held ∧ s.Fed) :=
  ⟨⟨0, posted 0x13 [2] live, by (repeat' apply And.intro) <;> decide⟩,
    ⟨0, .bayB, posted 0x13 [1] live, by (repeat' apply And.intro) <;> decide⟩,
    ⟨0, .bayA, record, posted 0x13 [0] { live with src.bayA.state := .ready, gauge.recA := some record }, by (repeat' apply And.intro) <;> decide⟩⟩

theorem witness_InstallCurveStages :
    (∃ (e : EntryId) (r : CurveReason) (i : Nat) (s : State), s.Taken .installCurve e ∧ s.curveVerdict = .error (r, i))
    ∧ (∃ (e : EntryId) (c : List (Nat × Nat)) (s : State), s.Taken .installCurve e ∧ s.curveVerdict = .ok c) :=
  ⟨⟨0, .count, 0, posted 0x20 [] ((live.xwrite 0x0900 [17]).xwrite 0x0904 []), by (repeat' apply And.intro) <;> first | rfl | decide⟩,
    ⟨0, [(0, 0), (131071, 1000)], posted 0x20 [] ((live.xwrite 0x0900 [2]).xwrite 0x0904 [0, 0, 0, 0, 0, 0, 0, 0, 0xFF, 0xFF, 1, 0, 0xE8, 3]), by (repeat' apply And.intro) <;> first | rfl | decide⟩⟩

theorem witness_DisplaySettingsStored :
    (∃ (e : EntryId) (s : State), s.Taken .setBrightness e ∧ 1 < s.arg e 0 1)
    ∧ (∃ (e : EntryId) (s : State), s.Taken .setBrightness e ∧ s.arg e 0 1 ≤ 1)
    ∧ (∃ (e : EntryId) (s : State), s.Taken .setCeilings e)
    ∧ (∃ (e : EntryId) (s : State), s.Taken .setFilter e) :=
  ⟨⟨0, posted 0x21 [2] live, by (repeat' apply And.intro) <;> decide⟩,
    ⟨0, posted 0x21 [1] live, by (repeat' apply And.intro) <;> decide⟩,
    ⟨0, posted 0x22 [] live, by (repeat' apply And.intro) <;> decide⟩,
    ⟨0, posted 0x23 [] live, by (repeat' apply And.intro) <;> decide⟩⟩

theorem witness_IndicatorPulseGiven :
    (∃ (e : EntryId) (s : State), s.Taken .indicatorPulse e ∧ s.drv.active = none)
    ∧ (∃ (e : EntryId) (a : Group) (s : State), s.Taken .indicatorPulse e ∧ s.drv.active = some a ∧ a.cls ≠ .host ∧ s.drv.waitHost = none) :=
  ⟨⟨0, posted 0x24 [] live, by (repeat' apply And.intro) <;> decide⟩,
    ⟨0, { hostOn with cls := .drop, entry := none }, posted 0x24 [] { live with drv.active := some { hostOn with cls := .drop, entry := none } }, by (repeat' apply And.intro) <;> decide⟩⟩

theorem witness_ThresholdsAndArm :
    (∃ (e : EntryId) (s : State), s.Taken .setDropThresholds e)
    ∧ (∃ (e : EntryId) (s : State), s.Taken .motionArm e ∧ 1 < s.arg e 0 1)
    ∧ (∃ (e : EntryId) (s : State), s.Taken .motionArm e ∧ s.arg e 0 1 = 1)
    ∧ (∃ (e : EntryId) (s : State), s.Taken .motionArm e ∧ s.arg e 0 1 = 0 ∧ s.motion.state ≠ .falling ∧ s.motion.state ≠ .settling)
    ∧ (∃ (e : EntryId) (s : State), s.Taken .motionArm e ∧ s.arg e 0 1 = 0 ∧ (s.motion.state = .falling ∨ s.motion.state = .settling)) :=
  ⟨⟨0, posted 0x30 [] live, by (repeat' apply And.intro) <;> decide⟩,
    ⟨0, posted 0x31 [2] live, by (repeat' apply And.intro) <;> decide⟩,
    ⟨0, posted 0x31 [1] live, by (repeat' apply And.intro) <;> decide⟩,
    ⟨0, posted 0x31 [0] live, by (repeat' apply And.intro) <;> decide⟩,
    ⟨0, posted 0x31 [0] { live with motion.state := .settling, motion.fall := some fall }, by (repeat' apply And.intro) <;> decide⟩⟩

theorem witness_AppendNoteWaitsOrStarts :
    (∃ (e : EntryId) (s : State), s.Taken .historyAppendNote e ∧ s.hist.fault = none ∧ 48 < s.arg e 0 2)
    ∧ (∃ (e : EntryId) (s : State), s.Taken .historyAppendNote e ∧ s.hist.fault = none ∧ s.arg e 0 2 ≤ 48 ∧ s.hist.op ≠ .idle)
    ∧ (∃ (e : EntryId) (s : State), s.Taken .historyAppendNote e ∧ s.hist.fault = none ∧ s.arg e 0 2 ≤ 48 ∧ s.hist.op = .idle ∧ s.hist.tries = 0 ∧ slotErased (s.hist.slotBytes s.hist.headSector s.hist.headSlot) = true) :=
  ⟨⟨0, posted 0x40 [49] live, by (repeat' apply And.intro) <;> decide⟩,
    ⟨0, posted 0x40 [48] { live with hist.op := .erase 0 1 0 }, by (repeat' apply And.intro) <;> decide⟩,
    ⟨0, posted 0x40 [48] live, by (repeat' apply And.intro) <;> decide⟩⟩

theorem witness_ProtectWaitsOrSteps :
    (∃ (e : EntryId) (s : State), s.Taken .historyProtect e ∧ s.hist.fault = none ∧ (s.arg e 0 1 < 8 ∨ 63 < s.arg e 0 1))
    ∧ (∃ (e : EntryId) (s : State), s.Taken .historyProtect e ∧ s.hist.fault = none ∧ 8 ≤ s.arg e 0 1 ∧ s.arg e 0 1 ≤ 63 ∧ s.hist.boundary ≤ s.arg e 0 1)
    ∧ (∃ (e : EntryId) (s : State), s.Taken .historyProtect e ∧ s.hist.fault = none ∧ 8 ≤ s.arg e 0 1 ∧ s.arg e 0 1 ≤ 63 ∧ s.arg e 0 1 < s.hist.boundary) :=
  ⟨⟨0, posted 0x42 [7] live, by (repeat' apply And.intro) <;> decide⟩,
    ⟨0, posted 0x42 [63] live, by (repeat' apply And.intro) <;> decide⟩,
    ⟨0, posted 0x42 [62] live, by (repeat' apply And.intro) <;> decide⟩⟩

theorem witness_HistoryMapAndFault :
    (∃ (e : EntryId) (s : State), s.Taken .historyMap e ∧ s.hist.fault = none ∧ s.arg e 0 1 < 64)
    ∧ (∃ (e : EntryId) (s : State), s.Taken .historyMap e ∧ s.hist.fault = none ∧ s.arg e 0 1 = 0xFF)
    ∧ (∃ (e : EntryId) (s : State), s.Taken .historyMap e ∧ s.hist.fault = none ∧ 64 ≤ s.arg e 0 1 ∧ s.arg e 0 1 ≠ 0xFF)
    ∧ (∃ (e : EntryId) (s : State), s.Taken .historyAppendNote e ∧ s.hist.fault.isSome = true)
    ∧ (∃ (e : EntryId) (s : State), s.Taken .historyMap e ∧ s.hist.fault.isSome = true)
    ∧ (∃ (e : EntryId) (s : State), s.Taken .historyProtect e ∧ s.hist.fault.isSome = true)
    ∧ (∃ (e : EntryId) (s : State), s.Taken .historyLocate e ∧ s.hist.fault.isSome = true) :=
  ⟨⟨0, posted 0x41 [63] live, by (repeat' apply And.intro) <;> decide⟩,
    ⟨0, posted 0x41 [255] live, by (repeat' apply And.intro) <;> decide⟩,
    ⟨0, posted 0x41 [64] live, by (repeat' apply And.intro) <;> decide⟩,
    ⟨0, posted 0x40 [] { live with hist.fault := some .erase }, by (repeat' apply And.intro) <;> decide⟩,
    ⟨0, posted 0x41 [] { live with hist.fault := some .erase }, by (repeat' apply And.intro) <;> decide⟩,
    ⟨0, posted 0x42 [] { live with hist.fault := some .erase }, by (repeat' apply And.intro) <;> decide⟩,
    ⟨0, posted 0x43 [] { live with hist.fault := some .erase }, by (repeat' apply And.intro) <;> decide⟩⟩

theorem witness_LocateFindsRecord :
    ∃ (e : EntryId) (s : State), s.Taken .historyLocate e ∧ s.hist.fault = none :=
  ⟨0, posted 0x43 [] live, by (repeat' apply And.intro) <;> decide⟩

theorem witness_PinsStartCandidates :
    (∃ (s : State), s.Live)
    ∧ (∃ (s : State), s.Live)
    ∧ (∃ (s : State), s.Live)
    ∧ (∃ (s : State), s.Live)
    ∧ (∃ (s : State), s.powered = false)
    ∧ (∃ (s : State), s.powered = false)
    ∧ (∃ (s : State), s.powered = false)
    ∧ (∃ (s : State), s.powered = false) :=
  ⟨⟨live, by (repeat' apply And.intro) <;> decide⟩,
    ⟨live, by (repeat' apply And.intro) <;> decide⟩,
    ⟨live, by (repeat' apply And.intro) <;> decide⟩,
    ⟨live, by (repeat' apply And.intro) <;> decide⟩,
    ⟨{ live with powered := false }, by decide⟩,
    ⟨{ live with powered := false }, by decide⟩,
    ⟨{ live with powered := false }, by decide⟩,
    ⟨{ live with powered := false }, by decide⟩⟩

theorem witness_PresenceMovesBay :
    (∃ (b : BayId) (s : State), s.Live ∧ ¬(s.bay b).present.Held s.time s.setup.debounce)
    ∧ (∃ (b : BayId) (s : State), s.Live ∧ (s.bay b).present.Held s.time s.setup.debounce ∧ (s.bay b).present.raw = true ∧ (s.bay b).state = .empty)
    ∧ (∃ (b : BayId) (s : State), s.Live ∧ (s.bay b).present.Held s.time s.setup.debounce ∧ (s.bay b).present.raw = false ∧ s.src.hold = false ∧ (s.bay b).state ≠ .empty ∧ (s.bay b).state ≠ .held ∧ s.losable b ∧ s.Room 1)
    ∧ (∃ (b : BayId) (s : State), s.Live ∧ (s.bay b).present.Held s.time s.setup.debounce ∧ (s.bay b).present.raw = false ∧ s.src.hold = true ∧ (s.bay b).state ≠ .empty ∧ (s.bay b).state ≠ .held ∧ s.losable b)
    ∧ (∃ (b : BayId) (s : State), s.Live ∧ (s.bay b).present.Held s.time s.setup.debounce ∧ (s.bay b).present.raw = true ∧ s.src.hold = true ∧ (s.bay b).state = .held ∧ ((s.bay b).heldDest = .ready ∨ (s.bay b).heldDest = .swapPrepared) ∧ ((s.bay b).mv < 9000 ∨ 13000 < (s.bay b).mv))
    ∧ (∃ (b : BayId) (s : State), s.Live ∧ (s.bay b).present.Held s.time s.setup.debounce ∧ (s.bay b).present.raw = true ∧ s.src.hold = true ∧ (s.bay b).state = .held ∧ s.src.feeding ≠ b.feed ∧ s.Fed ∧ ((s.bay b).heldDest = .seated ∨ (s.bay b).heldDest = .fault ∨ (9000 ≤ (s.bay b).mv ∧ (s.bay b).mv ≤ 13000))) :=
  ⟨⟨.bayB, { live with src.bayB.present := { raw := true, acc := false, cand := some (live.time - 7) } }, by (repeat' apply And.intro) <;> decide⟩,
    ⟨.bayB, { live with src.bayB.present := { raw := true, acc := !true, cand := some (live.time - 8) } }, by (repeat' apply And.intro) <;> decide⟩,
    ⟨.bayB, { live with src.bayB.present := { raw := false, acc := !false, cand := some (live.time - 8) }, src.bayB.state := .ready, hist.op := .erase 0 1 0, hist.list := List.replicate 7 (HistRecord.restart []) }, by (repeat' apply And.intro) <;> decide⟩,
    ⟨.bayA, { live with src.bayA.state := .feeding, src.feeding := .bayA, src.power := .pack, src.bayA.present := { raw := false, acc := !false, cand := some (live.time - 8) }, src.hold := true, src.bayB.state := .ready }, by (repeat' apply And.intro) <;> decide⟩,
    ⟨.bayB, { live with src.bayB.present := { raw := true, acc := !true, cand := some (live.time - 8) }, src.bayB.state := .held, src.bayB.prior := some .ready, src.bayB.mv := 13001, src.hold := true }, by (repeat' apply And.intro) <;> decide⟩,
    ⟨.bayB, { live with src.bayB.present := { raw := true, acc := !true, cand := some (live.time - 8) }, src.bayB.state := .held, src.bayB.prior := some .ready, src.bayB.mv := 13000, src.hold := true }, by (repeat' apply And.intro) <;> decide⟩⟩

theorem witness_LastSourcePulled :
    (∃ (b : BayId) (s : State), s.Live ∧ (s.bay b).present.Held s.time s.setup.debounce ∧ (s.bay b).present.raw = false ∧ s.src.hold = false ∧ (s.bay b).state = .feeding ∧ s.src.feeding = b.feed ∧ s.src.power = .pack ∧ s.src.exhLatch = false ∧ s.src.dcPresent = false ∧ ¬(s.bay b.other).isEligible ∧ ¬(s.bay b.other).mayReengage ∧ (s.src.bridgeMonitor = .low ∨ s.src.cutoff = true) ∧ s.Room 2)
    ∧ (∃ (b : BayId) (s : State), s.Live ∧ (s.bay b).present.Held s.time s.setup.debounce ∧ (s.bay b).present.raw = false ∧ s.src.hold = true ∧ (s.bay b).state = .feeding ∧ s.src.feeding = b.feed ∧ s.src.power = .pack ∧ s.src.exhLatch = false ∧ s.src.dcPresent = false ∧ ¬(s.bay b.other).isEligible ∧ ¬(s.bay b.other).mayReengage ∧ (s.src.bridgeMonitor = .low ∨ s.src.cutoff = true) ∧ s.Room 1) :=
  ⟨⟨.bayA, { live with src.bayA.state := .feeding, src.feeding := .bayA, src.power := .pack, src.bayA.present := { raw := false, acc := !false, cand := some (live.time - 8) }, hist.op := .erase 0 1 0, hist.list := List.replicate 6 (HistRecord.restart []) }, by (repeat' apply And.intro) <;> decide⟩,
    ⟨.bayA, { live with src.bayA.state := .feeding, src.feeding := .bayA, src.power := .pack, src.bayA.present := { raw := false, acc := !false, cand := some (live.time - 8) }, src.hold := true, hist.op := .erase 0 1 0, hist.list := List.replicate 7 (HistRecord.restart []) }, by (repeat' apply And.intro) <;> decide⟩⟩

theorem witness_LatchMovesBay :
    (∃ (b : BayId) (s : State), s.Live ∧ ¬(s.bay b).latch.Held s.time s.setup.debounce)
    ∧ (∃ (b : BayId) (s : State), s.Live ∧ (s.bay b).latch.Held s.time s.setup.debounce ∧ (s.src.hold = true ∨ (s.Prepares b ∧ ((s.bay b).state = .feeding ∨ (s.bay b).state = .ready)) ∨ (s.bay b).state = .empty ∨ (s.bay b).state = .held ∨ (s.bay b).state = .fault ∨ ((s.bay b).latch.raw = false ∧ ((s.bay b).state = .seated ∨ (s.bay b).state = .releasing)) ∨ ((s.bay b).latch.raw = true ∧ ((s.bay b).state = .qualifying ∨ (s.bay b).state = .ready ∨ (s.bay b).state = .swapPrepared ∨ ((s.bay b).state = .feeding ∧ (s.bay b).latchOpen = false)))))
    ∧ (∃ (b : BayId) (s : State), s.Live ∧ (s.bay b).latch.Held s.time s.setup.debounce ∧ s.src.hold = false ∧ (s.bay b).state = .seated ∧ (s.bay b).latch.raw = true)
    ∧ (∃ (b : BayId) (s : State), s.Live ∧ (s.bay b).latch.Held s.time s.setup.debounce ∧ s.src.hold = false ∧ (s.bay b).state = .qualifying ∧ (s.bay b).latch.raw = false)
    ∧ (∃ (b : BayId) (s : State), s.Live ∧ (s.bay b).latch.Held s.time s.setup.debounce ∧ s.src.hold = false ∧ (s.bay b).latch.raw = false ∧ (((s.bay b).state = .ready ∧ ¬s.Prepares b) ∨ (s.bay b).state = .swapPrepared) ∧ s.src.feeding ≠ b.feed ∧ s.Fed)
    ∧ (∃ (b : BayId) (s : State), s.Live ∧ (s.bay b).latch.Held s.time s.setup.debounce ∧ s.src.hold = false ∧ (s.bay b).latch.raw = true ∧ (s.bay b).state = .releasing ∧ ((s.bay b).prior = some .ready ∨ (s.bay b).prior = some .swapPrepared) ∧ s.Fed)
    ∧ (∃ (b : BayId) (s : State), s.Live ∧ (s.bay b).latch.Held s.time s.setup.debounce ∧ s.src.hold = false ∧ (s.bay b).latch.raw = true ∧ (s.bay b).state = .feeding ∧ (s.bay b).latchOpen = true ∧ s.src.feeding = b.feed ∧ ¬s.Prepares b ∧ (s.bay b).depleted = false) :=
  ⟨⟨.bayB, { live with src.bayB.latch := { raw := true, acc := false, cand := some (live.time - 7) } }, by (repeat' apply And.intro) <;> decide⟩,
    ⟨.bayB, { live with src.bayB.latch := { raw := false, acc := !false, cand := some (live.time - 8) }, src.bayB.state := .ready, src.prep := { pending := true, bay := .bayB, latchNote := false, request := none, since := 0 } }, by (repeat' apply And.intro) <;> decide⟩,
    ⟨.bayB, { live with src.bayB.latch := { raw := true, acc := !true, cand := some (live.time - 8) }, src.bayB.state := .seated }, by (repeat' apply And.intro) <;> decide⟩,
    ⟨.bayB, { live with src.bayB.latch := { raw := false, acc := !false, cand := some (live.time - 8) }, src.bayB.state := .qualifying }, by (repeat' apply And.intro) <;> decide⟩,
    ⟨.bayB, { live with src.bayB.latch := { raw := false, acc := !false, cand := some (live.time - 8) }, src.bayB.state := .swapPrepared }, by (repeat' apply And.intro) <;> decide⟩,
    ⟨.bayB, { live with src.bayB.latch := { raw := true, acc := !true, cand := some (live.time - 8) }, src.bayB.state := .releasing, src.bayB.prior := some .swapPrepared }, by (repeat' apply And.intro) <;> decide⟩,
    ⟨.bayA, { live with src.bayA.state := .feeding, src.feeding := .bayA, src.power := .pack, src.bayA.latchOpen := true, src.bayA.latch := { raw := true, acc := !true, cand := some (live.time - 8) } }, by (repeat' apply And.intro) <;> decide⟩⟩

theorem witness_UnplannedReleaseMovesOrStrands :
    (∃ (b : BayId) (s : State), s.Live ∧ (s.bay b).latch.Held s.time s.setup.debounce ∧ s.src.hold = false ∧ (s.bay b).latch.raw = false ∧ (s.bay b).state = .feeding ∧ s.src.feeding = b.feed ∧ (s.bay b).latchOpen = false ∧ ¬s.Prepares b ∧ s.src.dcPresent = false ∧ ¬(s.bay b.other).isEligible ∧ ¬(s.bay b.other).mayReengage ∧ (s.src.bridgeMonitor = .low ∨ s.src.cutoff = true ∨ s.src.exhLatch = true))
    ∧ (∃ (b : BayId) (s : State), s.Live ∧ (s.bay b).latch.Held s.time s.setup.debounce ∧ s.src.hold = false ∧ (s.bay b).latch.raw = false ∧ (s.bay b).state = .feeding ∧ s.src.feeding = b.feed ∧ (s.bay b).latchOpen = false ∧ ¬s.Prepares b ∧ s.src.dcPresent = false ∧ (s.bay b.other).isEligible ∧ s.src.exhLatch = false)
    ∧ (∃ (b : BayId) (s : State), s.Live ∧ (s.bay b).latch.Held s.time s.setup.debounce ∧ s.src.hold = false ∧ (s.bay b).latch.raw = false ∧ (s.bay b).state = .feeding ∧ s.src.feeding = b.feed ∧ (s.bay b).latchOpen = false ∧ ¬s.Prepares b ∧ s.src.dcPresent = true)
    ∧ (∃ (b : BayId) (s : State), s.Live ∧ (s.bay b).latch.Held s.time s.setup.debounce ∧ s.src.hold = false ∧ (s.bay b).latch.raw = false ∧ (s.bay b).state = .feeding ∧ s.src.feeding = b.feed ∧ (s.bay b).latchOpen = false ∧ ¬s.Prepares b ∧ s.src.dcPresent = false ∧ ¬(s.bay b.other).isEligible ∧ s.src.bridgeMonitor ≠ .low ∧ s.src.cutoff = false ∧ s.src.exhLatch = false)
    ∧ (∃ (b : BayId) (s : State), s.Live ∧ (s.bay b).latch.Held s.time s.setup.debounce ∧ s.src.hold = false ∧ (s.bay b).latch.raw = false ∧ (s.bay b).state = .feeding ∧ s.src.feeding = b.feed ∧ (s.bay b).latchOpen = false ∧ ¬s.Prepares b ∧ s.src.dcPresent = false ∧ (s.bay b.other).mayReengage ∧ (s.src.bridgeMonitor = .low ∨ s.src.cutoff = true ∨ s.src.exhLatch = true)) :=
  ⟨⟨.bayA, { live with src.bayA.state := .feeding, src.feeding := .bayA, src.power := .pack, src.bayA.latch := { raw := false, acc := !false, cand := some (live.time - 8) } }, by (repeat' apply And.intro) <;> decide⟩,
    ⟨.bayA, { live with src.bayA.state := .feeding, src.feeding := .bayA, src.power := .pack, src.bayA.latch := { raw := false, acc := !false, cand := some (live.time - 8) }, src.bayB.state := .ready }, by (repeat' apply And.intro) <;> decide⟩,
    ⟨.bayA, { live with src.bayA.state := .feeding, src.feeding := .bayA, src.power := .pack, src.bayA.latch := { raw := false, acc := !false, cand := some (live.time - 8) }, src.dcPresent := true }, by (repeat' apply And.intro) <;> decide⟩,
    ⟨.bayA, { live with src.bayA.state := .feeding, src.feeding := .bayA, src.power := .pack, src.bayA.latch := { raw := false, acc := !false, cand := some (live.time - 8) }, src.bridgeMonitor := .recovering }, by (repeat' apply And.intro) <;> decide⟩,
    ⟨.bayA, { live with src.bayA.state := .feeding, src.feeding := .bayA, src.power := .pack, src.bayA.latch := { raw := false, acc := !false, cand := some (live.time - 8) }, src.bayB.state := .swapPrepared, src.bayB.present.acc := true, src.bayB.latch.acc := true }, by (repeat' apply And.intro) <;> decide⟩⟩

theorem witness_EndOfCharge :
    (∃ (s : State), s.Live ∧ ¬s.src.chgDone.Held s.time s.setup.debounce)
    ∧ (∃ (s : State), s.Live ∧ s.src.chgDone.Held s.time s.setup.debounce ∧ (s.src.chgDone.raw = false ∨ (s.src.bayA.chargeSel = false ∧ s.src.bayB.chargeSel = false)))
    ∧ (∃ (b : BayId) (r : GaugeRec) (s : State), s.Live ∧ s.src.chgDone.Held s.time s.setup.debounce ∧ s.src.chgDone.raw = true ∧ b = (if s.src.bayA.chargeSel then BayId.bayA else .bayB) ∧ (s.bay b).chargeSel = true ∧ s.gaugeRec b = some r ∧ s.Fed) :=
  ⟨⟨live, by (repeat' apply And.intro) <;> decide⟩,
    ⟨{ live with src.chgDone := { raw := false, acc := !false, cand := some (live.time - 8) } }, by (repeat' apply And.intro) <;> decide⟩,
    ⟨.bayB, record, { live with src.chgDone := { raw := true, acc := !true, cand := some (live.time - 8) }, src.bayB.chargeSel := true, src.bayB.state := .ready, gauge.recB := some record, src.dcPresent := true, src.feeding := .dc, src.power := .dc }, by (repeat' apply And.intro) <;> decide⟩⟩

theorem witness_SystemStateAccepted :
    (∃ (s : State), s.Live ∧ s.src.sysCand.all (fun c => decide ((s.time - c).toNat < 8)) = true)
    ∧ (∃ (s : State), s.Live ∧ s.src.sysCand.any (fun c => decide (8 ≤ (s.time - c).toNat)) = true ∧ s.src.sysState = .run ∧ sysOfLines s.src.sysLines ≠ .run)
    ∧ (∃ (s : State), s.Live ∧ s.src.sysCand.any (fun c => decide (8 ≤ (s.time - c).toNat)) = true ∧ s.LevelLaw ∧ s.CompareLaw ∧ s.src.sysState ≠ .run) :=
  ⟨⟨{ live with src.sysCand := some (live.time - 7) }, by (repeat' apply And.intro) <;> decide⟩,
    ⟨{ live with src.sysCand := some (live.time - 8), src.sysState := .run }, by (repeat' apply And.intro) <;> decide⟩,
    ⟨{ live with src.sysCand := some (live.time - 8), src.sysLines := .run }, by (repeat' apply And.intro) <;> decide⟩⟩

theorem witness_PowerRoundCounts :
    (∃ (r : Round) (b : BayId) (g : GaugeRec) (s : State), s.Live ∧ s.gaugeRec b = some g ∧ (s.bay b).state ∈ [BayState.ready, .feeding, .swapPrepared, .releasing] ∧ (9000 ≤ r.mvOf b ∨ (s.bay b).monitor = .tripped ∨ (s.bay b).tripRun < 2))
    ∧ (∃ (r : Round) (b : BayId) (g : GaugeRec) (s : State), s.Live ∧ s.gaugeRec b = some g ∧ (s.bay b).state ∈ [BayState.ready, .feeding, .swapPrepared, .releasing] ∧ (s.bay b).monitor = .released ∧ 2 ≤ (s.bay b).tripRun ∧ r.mvOf b < 9000)
    ∧ (∃ (r : Round) (b : BayId) (g : GaugeRec) (s : State), s.Live ∧ s.gaugeRec b = some g ∧ (s.bay b).state ∈ [BayState.ready, .feeding, .swapPrepared, .releasing] ∧ (9000 ≤ r.mvOf b ∨ (s.bay b).monitor = .tripped ∨ (s.bay b).tripRun < 2))
    ∧ (∃ (b : BayId) (s : State), s.Live ∧ (s.bay b).state = .held ∧ (s.bay b).present.acc = false)
    ∧ (∃ (s : State), s.Live)
    ∧ (∃ (r : Round) (b : BayId) (s : State), s.Live ∧ s.src.feeding = b.feed ∧ (s.bay b).state = .feeding ∧ (s.bay b).isEligible ∧ (9000 ≤ r.mvOf b ∨ (s.bay b).monitor = .tripped ∨ (s.bay b).tripRun < 2) ∧ (s.src.policy = .drainLower ∨ (s.bay b.other).state = .empty) ∧ s.src.dcPresent = false ∧ r.mvDc < 17000 ∧ s.gauge.secCount < 100)
    ∧ (∃ (s : State), s.Live ∧ s.src.feeding ≠ .bayA ∧ s.src.feeding ≠ .bayB) :=
  ⟨⟨round 9000 12000 4000 0, .bayA, record, { live with src.bayA.state := .releasing, gauge.recA := some record }, by (repeat' apply And.intro) <;> decide⟩,
    ⟨round 8999 0 0 0, .bayA, record, { live with src.bayA.state := .feeding, src.feeding := .bayA, src.power := .pack, src.bayA.tripRun := 2, gauge.recA := some record }, by (repeat' apply And.intro) <;> decide⟩,
    ⟨round 0 9000 0 0, .bayB, { record with soc := 9, remaining := 1944000 }, { live with src.bayB.state := .feeding, src.feeding := .bayB, src.power := .pack, gauge.recB := some { record with soc := 9, remaining := 1944000 } }, by (repeat' apply And.intro) <;> decide⟩,
    ⟨.bayB, { live with src.bayB.state := .held }, by (repeat' apply And.intro) <;> decide⟩,
    ⟨live, by (repeat' apply And.intro) <;> decide⟩,
    ⟨round 9000 0 0 16999, .bayA, { live with src.bayA.state := .feeding, src.feeding := .bayA, src.power := .pack, gauge.secCount := 99 }, by (repeat' apply And.intro) <;> decide⟩,
    ⟨{ live with src.dcPresent := true, src.feeding := .dc, src.power := .dc }, by (repeat' apply And.intro) <;> decide⟩⟩

theorem witness_PowerRoundMonitors :
    (∃ (b : BayId) (s : State), s.Live ∧ (s.bay b).state ∈ [BayState.qualifying, .ready, .feeding, .swapPrepared, .releasing])
    ∧ (∃ (r : Round) (b : BayId) (s : State), s.Live ∧ ((s.bay b).state = .ready ∨ (s.bay b).state = .feeding) ∧ (s.bay b).latchOpen = false ∧ (s.bay b).monitor = .released ∧ 2 ≤ (s.bay b).tripRun ∧ r.mvOf b < 9000)
    ∧ (∃ (r : Round) (b : BayId) (s : State), s.Live ∧ (s.bay b).state = .feeding ∧ s.src.feeding = b.feed ∧ (s.bay b).latchOpen = false ∧ (s.bay b).depleted = false ∧ (s.bay b).monitor = .released ∧ 2 ≤ (s.bay b).tripRun ∧ r.mvOf b < 9000 ∧ s.src.dcPresent = false ∧ r.mvDc < 17000 ∧ (s.bay b.other).state = .ready ∧ (s.bay b.other).depleted = false ∧ (s.bay b.other).latchOpen = false ∧ (s.bay b.other).monitor = .released ∧ 9000 ≤ r.mvOf b.other)
    ∧ (∃ (r : Round) (b : BayId) (s : State), s.Live ∧ (s.bay b).state = .ready ∧ (s.bay b).depleted = true ∧ (s.bay b).monitor = .tripped ∧ 2 ≤ (s.bay b).releaseRun ∧ 9600 ≤ r.mvOf b ∧ s.src.feeding ≠ b.feed ∧ s.src.dcPresent = (s.bay b).chargeSel)
    ∧ (∃ (r : Round) (s : State), s.Live ∧ 3000 ≤ r.mvBridge)
    ∧ (∃ (s : State), s.Live)
    ∧ (∃ (r : Round) (b : BayId) (s : State), s.Live ∧ (s.bay b).state = .held ∧ (s.bay b).present.acc = true ∧ (s.bay b).latchOpen = false ∧ s.src.feeding ≠ b.feed ∧ (s.bay b).prior = some .ready ∧ 9000 ≤ r.mvOf b ∧ r.mvOf b ≤ 13000)
    ∧ (∃ (r : Round) (s : State), s.Live ∧ s.src.feeding = .bridge ∧ s.src.power = .bridge ∧ s.src.cutoff = false ∧ r.mvBridge < 3000 ∧ s.src.bridgeMonitor ≠ .low ∧ s.src.bridgeBelow < 2 ∧ s.src.dcPresent = false ∧ r.mvDc < 17000 ∧ s.src.bayA.state = .empty ∧ s.src.bayB.state = .empty ∧ s.Room 1)
    ∧ (∃ (r : Round) (s : State), s.Live ∧ s.src.feeding = .bridge ∧ s.src.power = .bridge ∧ s.src.cutoff = false ∧ 3000 ≤ r.mvBridge ∧ r.mvBridge < 3300 ∧ s.src.bridgeMonitor ≠ .low ∧ 2 ≤ s.src.bridgeBelow ∧ s.src.dcPresent = false ∧ r.mvDc < 17000 ∧ s.src.bayA.state = .empty ∧ s.src.bayB.state = .empty ∧ s.Room 1)
    ∧ (∃ (r : Round) (b : BayId) (s : State), s.Live ∧ s.src.feeding = .bridge ∧ s.src.power = .bridge ∧ s.src.cutoff = false ∧ 3000 ≤ r.mvBridge ∧ r.mvBridge < 3300 ∧ s.src.bridgeMonitor ≠ .low ∧ 2 ≤ s.src.bridgeBelow ∧ s.src.dcPresent = false ∧ r.mvDc < 17000 ∧ (s.bay b).mayReengage ∧ 9000 ≤ r.mvOf b ∧ (s.bay b.other).state = .empty)
    ∧ (∃ (r : Round) (s : State), s.Live ∧ s.src.feeding = .bridge ∧ s.src.power = .exhausted ∧ s.src.exhLatch = true ∧ s.src.bridgeMonitor = .low ∧ r.mvBridge < 3000 ∧ s.src.dcPresent = false ∧ r.mvDc < 17000 ∧ s.src.bayA.state = .empty ∧ s.src.bayB.state = .empty)
    ∧ (∃ (b : BayId) (s : State), s.Live ∧ (s.bay b).state = .qualifying)
    ∧ (∃ (r : Round) (b : BayId) (s : State), s.Live ∧ s.src.feeding ≠ .bridge ∧ r.mvBridge < 3000 ∧ (s.src.dcPresent = true ∨ ((s.bay b).isEligible ∧ (s.bay b).monitor = .released ∧ 9000 ≤ r.mvOf b)))
    ∧ (∃ (r : Round) (b : BayId) (s : State), s.Live ∧ (s.bay b).state = .feeding ∧ s.src.feeding = b.feed ∧ (s.bay b).latchOpen = true ∧ (s.bay b).depleted = false ∧ (s.bay b).monitor = .released ∧ 2 ≤ (s.bay b).tripRun ∧ r.mvOf b < 9000 ∧ s.src.dcPresent = false ∧ r.mvDc < 17000 ∧ (s.bay b.other).state = .empty ∧ (s.src.exhLatch = true ∨ (s.src.bridgeMonitor = .low ∧ r.mvBridge < 3300))) :=
  ⟨⟨.bayB, { live with src.bayB.state := .qualifying, src.bayB.tripRun := 2 }, by (repeat' apply And.intro) <;> decide⟩,
    ⟨round 0 8999 0 0, .bayB, { live with src.bayB.state := .ready, src.bayB.tripRun := 2 }, by (repeat' apply And.intro) <;> decide⟩,
    ⟨round 8999 9000 0 16999, .bayA, { live with src.bayA.state := .feeding, src.feeding := .bayA, src.power := .pack, src.bayA.tripRun := 2, src.bayB.state := .ready }, by (repeat' apply And.intro) <;> decide⟩,
    ⟨round 0 9600 0 0, .bayB, { live with src.bayB.state := .ready, src.bayB.depleted := true, src.bayB.monitor := .tripped, src.bayB.releaseRun := 2 }, by (repeat' apply And.intro) <;> decide⟩,
    ⟨round 0 0 3000 0, live, by (repeat' apply And.intro) <;> decide⟩,
    ⟨{ live with src.dcRun := 4 }, by (repeat' apply And.intro) <;> decide⟩,
    ⟨round 9000 13000 4000 0, .bayB, { live with src.bayB.state := .held, src.bayB.present.acc := true, src.bayB.prior := some .ready }, by (repeat' apply And.intro) <;> decide⟩,
    ⟨round 0 0 2999 16999, { live with src.feeding := .bridge, src.power := .bridge, src.bridgeMonitor := .recovering, src.bridgeBelow := 1, hist.op := .erase 0 1 0, hist.list := List.replicate 7 (HistRecord.restart []) }, by (repeat' apply And.intro) <;> decide⟩,
    ⟨round 0 0 3299 16999, { live with src.feeding := .bridge, src.power := .bridge, src.bridgeMonitor := .recovering, src.bridgeBelow := 2, hist.op := .erase 0 1 0, hist.list := List.replicate 7 (HistRecord.restart []) }, by (repeat' apply And.intro) <;> decide⟩,
    ⟨round 0 9000 3000 16999, .bayB, { live with src.feeding := .bridge, src.power := .bridge, src.bridgeMonitor := .ready, src.bridgeBelow := 2, src.bayB.state := .swapPrepared, src.bayB.present.acc := true, src.bayB.latch.acc := true }, by (repeat' apply And.intro) <;> decide⟩,
    ⟨round 0 0 2999 16999, { live with src.feeding := .bridge, src.power := .exhausted, src.bridgeMonitor := .low, src.bridgeBelow := 0, src.exhLatch := true }, by (repeat' apply And.intro) <;> decide⟩,
    ⟨.bayA, { live with src.bayA.state := .qualifying, src.bayA.clean := true }, by (repeat' apply And.intro) <;> decide⟩,
    ⟨round 0 9000 2999 0, .bayB, { live with src.bayB.state := .ready, src.bridgeMonitor := .ready, src.bridgeBelow := 2 }, by (repeat' apply And.intro) <;> decide⟩,
    ⟨round 8999 0 3299 16999, .bayA, { live with src.bayA.state := .feeding, src.feeding := .bayA, src.power := .pack, src.bayA.latchOpen := true, src.bayA.tripRun := 2 }, by (repeat' apply And.intro) <;> decide⟩⟩

theorem witness_QualificationWindowEnds :
    (∃ (b : BayId) (s : State), s.Live ∧ ((s.bay b).state ≠ .qualifying ∨ (s.time - (s.bay b).qualStart).toNat < 2000))
    ∧ (∃ (b : BayId) (s : State), s.Live ∧ (s.bay b).state = .qualifying ∧ 2000 ≤ (s.time - (s.bay b).qualStart).toNat ∧ (s.bay b).clean = false)
    ∧ (∃ (b : BayId) (s : State), s.Live ∧ (s.bay b).state = .qualifying ∧ 2000 ≤ (s.time - (s.bay b).qualStart).toNat ∧ (s.bay b).clean = true ∧ s.Fed) :=
  ⟨⟨.bayB, { live with src.bayB.state := .qualifying, src.bayB.qualStart := live.time - 1999 }, by (repeat' apply And.intro) <;> decide⟩,
    ⟨.bayB, { live with src.bayB.state := .qualifying, src.bayB.qualStart := live.time - 2000 }, by (repeat' apply And.intro) <;> decide⟩,
    ⟨.bayB, { live with src.bayB.state := .qualifying, src.bayB.qualStart := live.time - 2000, src.bayB.clean := true, src.bayB.mv := 13000 }, by (repeat' apply And.intro) <;> decide⟩⟩

theorem witness_PreparationSwitchesOver :
    (∃ (s : State), s.Live ∧ s.src.prep.pending = false)
    ∧ (∃ (e : EntryId) (b : BayId) (s : State), s.Live ∧ s.Prepares b ∧ s.src.prep.request = some e ∧ s.req.actPower = some e ∧ s.req.intake = [] ∧ s.NoHostDisplaced ∧ (s.src.prep.latchNote = false ∨ s.src.hold = true) ∧ (s.bay b).state = .ready ∧ s.src.feeding ≠ b.feed ∧ s.Fed)
    ∧ (∃ (b : BayId) (s : State), s.Live ∧ s.Prepares b ∧ s.src.prep.request = none ∧ s.req.actPower = none ∧ s.req.intake = [] ∧ s.NoHostDisplaced ∧ (s.src.prep.latchNote = false ∨ s.src.hold = true) ∧ (s.bay b).state = .ready ∧ s.src.feeding ≠ b.feed ∧ s.Fed)
    ∧ (∃ (e : EntryId) (b : BayId) (s : State), s.Live ∧ s.Prepares b ∧ s.src.prep.request = some e ∧ s.req.actPower = some e ∧ s.req.intake = [] ∧ s.NoHostDisplaced ∧ s.src.prep.latchNote = true ∧ s.src.hold = false ∧ (s.bay b).latch.acc = false ∧ (s.bay b).state = .ready ∧ s.src.feeding ≠ b.feed ∧ s.Fed ∧ s.TripLaw ∧ ((s.bay b.other).mayReengage → (s.bay b.other).depleted = false ∧ (s.bay b.other).latchOpen = false))
    ∧ (∃ (e : EntryId) (b : BayId) (s : State), s.Live ∧ s.Prepares b ∧ s.src.prep.request = some e ∧ s.req.actPower = some e ∧ s.req.intake = [] ∧ (s.src.prep.latchNote = false ∨ s.src.hold = true) ∧ (s.bay b).state = .feeding ∧ ¬s.hasAlternative b)
    ∧ (∃ (e : EntryId) (b : BayId) (s : State), s.Live ∧ s.Prepares b ∧ s.src.prep.request = some e ∧ s.req.actPower = some e ∧ s.req.intake = [] ∧ s.src.prep.latchNote = true ∧ s.src.hold = false ∧ (s.bay b).state = .feeding ∧ (s.bay b).latchOpen = false ∧ s.src.feeding = b.feed ∧ ¬s.hasAlternative b ∧ ¬(s.bay b.other).mayReengage ∧ (s.src.bridgeMonitor = .low ∨ s.src.cutoff = true ∨ s.src.exhLatch = true))
    ∧ (∃ (b : BayId) (s : State), s.Live ∧ s.Prepares b ∧ s.req.actPower = s.src.prep.request ∧ s.req.intake = [] ∧ (s.bay b).state = .feeding ∧ (s.bay b).latchOpen = false ∧ s.src.feeding = b.feed ∧ s.hasAlternative b ∧ (s.bay b.other).monitor = .released)
    ∧ (∃ (e : EntryId) (b : BayId) (s : State), s.Live ∧ s.Prepares b ∧ s.src.prep.request = some e ∧ s.req.actPower = some e ∧ s.req.intake = [] ∧ (s.src.prep.latchNote = false ∨ s.src.hold = true ∨ (s.bay b).state = .empty ∨ (s.bay b).state = .held) ∧ (s.bay b).state ≠ .ready ∧ (s.bay b).state ≠ .feeding) :=
  ⟨⟨live, by (repeat' apply And.intro) <;> decide⟩,
    ⟨0, .bayA, { live with src.prep := { pending := true, bay := .bayA, latchNote := true, request := some 0, since := 0 }, req.actPower := some 0, req.entries := live.req.entries.set 0 .active, src.hold := true, src.bayA.state := .ready }, by (repeat' apply And.intro) <;> decide⟩,
    ⟨.bayA, { live with src.prep := { pending := true, bay := .bayA, latchNote := false, request := none, since := 0 }, src.bayA.state := .ready }, by (repeat' apply And.intro) <;> decide⟩,
    ⟨0, .bayA, { live with src.prep := { pending := true, bay := .bayA, latchNote := true, request := some 0, since := 0 }, req.actPower := some 0, req.entries := live.req.entries.set 0 .active, src.bayA.state := .ready }, by (repeat' apply And.intro) <;> decide⟩,
    ⟨0, .bayA, { live with src.prep := { pending := true, bay := .bayA, latchNote := false, request := some 0, since := 0 }, req.actPower := some 0, req.entries := live.req.entries.set 0 .active, src.bayA.state := .feeding, src.feeding := .bayA, src.power := .pack }, by (repeat' apply And.intro) <;> decide⟩,
    ⟨0, .bayA, { live with src.prep := { pending := true, bay := .bayA, latchNote := true, request := some 0, since := 0 }, req.actPower := some 0, req.entries := live.req.entries.set 0 .active, src.bayA.state := .feeding, src.feeding := .bayA, src.power := .pack }, by (repeat' apply And.intro) <;> decide⟩,
    ⟨.bayA, { live with src.prep := { pending := true, bay := .bayA, latchNote := true, request := none, since := 0 }, src.bayA.state := .feeding, src.feeding := .bayA, src.power := .pack, src.bayB.state := .ready }, by (repeat' apply And.intro) <;> decide⟩,
    ⟨0, .bayA, { live with src.prep := { pending := true, bay := .bayA, latchNote := true, request := some 0, since := 0 }, req.actPower := some 0, req.entries := live.req.entries.set 0 .active }, by (repeat' apply And.intro) <;> decide⟩⟩

theorem witness_TimersExpire :
    (∃ (b : BayId) (s : State), s.Live ∧ (s.bay b).prepTimer.all (fun x => decide ((s.time - x.start).toNat < x.len)) = true)
    ∧ (∃ (b : BayId) (s : State), s.Live ∧ (s.bay b).prepTimer.any (fun x => decide (x.len ≤ (s.time - x.start).toNat)) = true ∧ (s.bay b).state = .swapPrepared ∧ s.Fed)
    ∧ (∃ (b : BayId) (s : State), s.Live ∧ (s.bay b).prepTimer.any (fun x => decide (x.len ≤ (s.time - x.start).toNat)) = true ∧ (s.bay b).state ≠ .swapPrepared)
    ∧ (∃ (s : State), s.Live ∧ s.src.rideTimer.all (fun x => decide ((s.time - x.start).toNat < x.len)) = true)
    ∧ (∃ (x : Timer) (s : State), s.Live ∧ s.src.rideTimer = some x ∧ x.len ≤ (s.time - x.start).toNat ∧ s.src.feeding = .bridge ∧ s.src.power = .bridge ∧ s.src.cutoff = false ∧ s.src.dcPresent = false ∧ ¬s.src.bayA.isEligible ∧ ¬s.src.bayB.isEligible ∧ ¬s.src.bayA.mayReengage ∧ ¬s.src.bayB.mayReengage ∧ s.Room 1)
    ∧ (∃ (x : Timer) (b : BayId) (s : State), s.Live ∧ s.src.rideTimer = some x ∧ x.len ≤ (s.time - x.start).toNat ∧ s.src.feeding = .bridge ∧ (s.bay b).mayReengage ∧ ¬(s.bay b.other).mayReengage) :=
  ⟨⟨.bayB, { live with src.bayB.prepTimer := some { start := live.time - 59999, len := 60000 } }, by (repeat' apply And.intro) <;> decide⟩,
    ⟨.bayB, { live with src.bayB.prepTimer := some { start := live.time - 60000, len := 60000 }, src.bayB.state := .swapPrepared }, by (repeat' apply And.intro) <;> decide⟩,
    ⟨.bayB, { live with src.bayB.prepTimer := some { start := live.time - 60000, len := 60000 }, src.bayB.state := .releasing, src.bayB.prior := some .swapPrepared }, by (repeat' apply And.intro) <;> decide⟩,
    ⟨{ live with src.rideTimer := some { start := live.time - 9999, len := 10000 } }, by (repeat' apply And.intro) <;> decide⟩,
    ⟨{ start := live.time - 10000, len := 10000 }, { live with src.rideTimer := some { start := live.time - 10000, len := 10000 }, src.feeding := .bridge, src.power := .bridge, hist.op := .erase 0 1 0, hist.list := List.replicate 7 (HistRecord.restart []) }, by (repeat' apply And.intro) <;> decide⟩,
    ⟨{ start := live.time - 10000, len := 10000 }, .bayB, { live with src.rideTimer := some { start := live.time - 10000, len := 10000 }, src.feeding := .bridge, src.power := .bridge, src.bayB.state := .swapPrepared, src.bayB.present.acc := true, src.bayB.latch.acc := true }, by (repeat' apply And.intro) <;> decide⟩⟩

theorem witness_LightSampleFiltered :
    (∃ (s : State), s.Live ∧ s.src.sysState ≠ .run)
    ∧ (∃ (s : State), s.Live ∧ s.src.sysState = .run) :=
  ⟨⟨live, by (repeat' apply And.intro) <;> decide⟩,
    ⟨{ live with src.sysState := .run }, by (repeat' apply And.intro) <;> decide⟩⟩

theorem witness_RampMoves :
    (∃ (s : State), s.Live ∧ s.bright.staged = none ∧ s.CompareLaw)
    ∧ (∃ (e : EntryId) (cv : List (Nat × Nat)) (s : State), s.Live ∧ s.bright.staged = some cv ∧ s.req.actDisplay = some e ∧ s.req.intake = []) :=
  ⟨⟨{ live with src.sysState := .run }, by (repeat' apply And.intro) <;> decide⟩,
    ⟨0, [(0, 0), (1, 1000)], { live with bright.staged := some [(0, 0), (1, 1000)], req.actDisplay := some 0, req.entries := live.req.entries.set 0 .active }, by (repeat' apply And.intro) <;> decide⟩⟩

theorem witness_BacklightAndPulses :
    (∃ (s : State), s.Live ∧ ¬(s.drv.state = .delay ∧ s.drv.delayLen ≤ (s.time - s.drv.delayStart).toNat))
    ∧ (∃ (s : State), s.Live ∧ s.drv.state = .delay ∧ s.drv.delayLen ≤ (s.time - s.drv.delayStart).toNat)
    ∧ (∃ (s : State), s.Live ∧ s.drv.state ≠ .framing)
    ∧ (∃ (s : State), s.Live ∧ s.drv.state = .framing)
    ∧ (∃ (s : State), s.Live ∧ s.drv.active.all (fun g => !g.phaseOn || decide ((s.time - g.phaseStart).toNat < g.onMs)) = true)
    ∧ (∃ (g : Group) (s : State), s.Live ∧ s.drv.active = some g ∧ g.phaseOn = true ∧ g.onMs ≤ (s.time - g.phaseStart).toNat)
    ∧ (∃ (s : State), s.Live ∧ s.drv.active.all (fun g => g.phaseOn || decide ((s.time - g.phaseStart).toNat < g.offMs)) = true)
    ∧ (∃ (g : Group) (s : State), s.Live ∧ s.drv.active = some g ∧ g.phaseOn = false ∧ g.offMs ≤ (s.time - g.phaseStart).toNat ∧ g.completed ≠ g.count)
    ∧ (∃ (g : Group) (s : State), s.Live ∧ s.drv.active = some g ∧ g.phaseOn = false ∧ g.offMs ≤ (s.time - g.phaseStart).toNat ∧ g.completed = g.count ∧ g.entry = none)
    ∧ (∃ (g : Group) (e : EntryId) (s : State), s.Live ∧ s.drv.active = some g ∧ g.phaseOn = false ∧ g.offMs ≤ (s.time - g.phaseStart).toNat ∧ g.completed = g.count ∧ g.entry = some e ∧ s.req.actDisplay = some e ∧ s.req.intake = []) :=
  ⟨⟨{ live with drv.state := .delay, drv.delayStart := live.time - 199 }, by (repeat' apply And.intro) <;> decide⟩,
    ⟨{ live with drv.state := .delay, drv.delayStart := live.time - 200 }, by (repeat' apply And.intro) <;> decide⟩,
    ⟨live, by (repeat' apply And.intro) <;> decide⟩,
    ⟨{ live with drv.state := .framing }, by (repeat' apply And.intro) <;> decide⟩,
    ⟨{ live with drv.active := some { hostOn with phaseStart := live.time - 49 } }, by (repeat' apply And.intro) <;> decide⟩,
    ⟨{ hostOn with phaseStart := live.time - 50 }, { live with drv.active := some { hostOn with phaseStart := live.time - 50 } }, by (repeat' apply And.intro) <;> decide⟩,
    ⟨{ live with drv.active := some { hostOff with phaseStart := live.time - 59 } }, by (repeat' apply And.intro) <;> decide⟩,
    ⟨{ hostOff with phaseStart := live.time - 60, completed := 2 }, { live with drv.active := some { hostOff with phaseStart := live.time - 60, completed := 2 } }, by (repeat' apply And.intro) <;> decide⟩,
    ⟨{ hostOff with phaseStart := live.time - 60, entry := none }, { live with drv.active := some { hostOff with phaseStart := live.time - 60, entry := none } }, by (repeat' apply And.intro) <;> decide⟩,
    ⟨{ hostOff with phaseStart := live.time - 60 }, 0, { live with drv.active := some { hostOff with phaseStart := live.time - 60 }, req.actDisplay := some 0, req.entries := live.req.entries.set 0 .active }, by (repeat' apply And.intro) <;> decide⟩⟩

theorem witness_SampleSlotsCounted :
    (∃ (s : State), s.Live ∧ s.req.intake = [])
    ∧ (∃ (s : State), s.Live ∧ s.motion.state = .disarmed)
    ∧ (∃ (s : State), s.Live ∧ s.motion.state = .fault) :=
  ⟨⟨live, by (repeat' apply And.intro) <;> decide⟩,
    ⟨{ live with motion.state := .disarmed }, by (repeat' apply And.intro) <;> decide⟩,
    ⟨{ live with motion.state := .fault, motion.goodRun := 15 }, by (repeat' apply And.intro) <;> decide⟩⟩

theorem witness_WatchingJudged :
    ∃ (s : State), s.Live ∧ s.motion.state = .watching :=
  ⟨live, by (repeat' apply And.intro) <;> decide⟩

theorem witness_FallsJudged :
    (∃ (r : SlotReading) (f : Fall) (s : State), s.Live ∧ s.motion.state = .falling ∧ s.motion.fall = some f ∧ ¬((readingSample r = none ∨ s.motion.restartLeft ≠ 0) ∧ 7 ≤ s.motion.missingRun))
    ∧ (∃ (r : SlotReading) (f : Fall) (s : State), s.Live ∧ s.motion.state = .falling ∧ s.motion.fall = some f ∧ s.req.intake = [] ∧ (readingSample r = none ∨ s.motion.restartLeft ≠ 0) ∧ 7 ≤ s.motion.missingRun)
    ∧ (∃ (f : Fall) (s : State), s.Live ∧ s.motion.state = .settling ∧ s.motion.fall = some f) :=
  ⟨⟨.noAck, fall, { live with motion.state := .falling, motion.missingRun := 6, motion.fall := some fall }, by (repeat' apply And.intro) <;> decide⟩,
    ⟨.noAck, fall, { live with motion.state := .falling, motion.missingRun := 7, motion.fall := some fall }, by (repeat' apply And.intro) <;> decide⟩,
    ⟨fall, { live with motion.state := .settling, motion.fall := some fall }, by (repeat' apply And.intro) <;> decide⟩⟩

theorem witness_FallEnds :
    (∃ (s : State), s.Live ∧ ¬(s.motion.state = .settling ∧ s.motion.fall.any (fun f => decide (f.settleTimer.len ≤ (s.time - f.settleTimer.start).toNat)) = true))
    ∧ (∃ (f : Fall) (s : State), s.Live ∧ s.motion.state = .settling ∧ s.motion.fall = some f ∧ f.settleTimer.len ≤ (s.time - f.settleTimer.start).toNat ∧ s.req.intake = [])
    ∧ (∃ (b : BayId) (f : Fall) (s : State), s.Live ∧ s.motion.state = .settling ∧ s.motion.fall = some f ∧ f.settleTimer.len ≤ (s.time - f.settleTimer.start).toNat ∧ ¬s.Prepares b ∧ s.LatchLaw)
    ∧ (∃ (b : BayId) (f : Fall) (s : State), s.Live ∧ s.motion.state = .settling ∧ s.motion.fall = some f ∧ f.settleTimer.len ≤ (s.time - f.settleTimer.start).toNat ∧ ¬s.Prepares b ∧ (s.bay b).state = .feeding ∧ s.src.feeding = b.feed ∧ (s.bay b).latchOpen = false ∧ (s.bay b).latch.acc = false ∧ (s.bay b.other).state = .empty)
    ∧ (∃ (b : BayId) (f : Fall) (s : State), s.Live ∧ s.motion.state = .settling ∧ s.motion.fall = some f ∧ f.settleTimer.len ≤ (s.time - f.settleTimer.start).toNat ∧ (s.bay b).state = .ready ∧ (s.bay b).depleted = false ∧ (s.bay b).latchOpen = false ∧ (s.bay b).latch.acc = true ∧ (s.bay b.other).state = .empty ∧ s.src.feeding = .bridge)
    ∧ (∃ (s : State), s.Live ∧ ¬(s.motion.state = .fault ∧ 1000 ≤ (s.time - s.motion.restartBase).toNat))
    ∧ (∃ (s : State), s.Live ∧ s.motion.state = .fault ∧ 1000 ≤ (s.time - s.motion.restartBase).toNat)
    ∧ (∃ (s : State), s.Live ∧ s.motion.parkTimer.all (fun x => decide ((s.time - x.start).toNat < x.len)) = true)
    ∧ (∃ (s : State), s.Live ∧ s.motion.parkTimer.any (fun x => decide (x.len ≤ (s.time - x.start).toNat)) = true)
    ∧ (∃ (s : State), s.Live ∧ (s.src.listOut = none ∨ s.motion.fall = none))
    ∧ (∃ (f : Fall) (l : List Interruption) (s : State), s.Live ∧ s.src.listOut = some l ∧ s.motion.fall = some f ∧ s.req.actDisplay = none ∧ s.Room 1) :=
  ⟨⟨{ live with motion.state := .settling, motion.fall := some { fall with settleTimer := { start := live.time - 249, len := 250 } } }, by (repeat' apply And.intro) <;> decide⟩,
    ⟨{ fall with settleTimer := { start := live.time - 250, len := 250 } }, { live with motion.state := .settling, motion.fall := some { fall with settleTimer := { start := live.time - 250, len := 250 } } }, by (repeat' apply And.intro) <;> decide⟩,
    ⟨.bayB, { fall with settleTimer := { start := live.time - 250, len := 250 } }, { live with src.hold := true, motion.state := .settling, motion.fall := some { fall with settleTimer := { start := live.time - 250, len := 250 } }, src.bayB.state := .ready }, by (repeat' apply And.intro) <;> decide⟩,
    ⟨.bayA, { fall with settleTimer := { start := live.time - 250, len := 250 } }, { live with src.hold := true, motion.state := .settling, motion.fall := some { fall with settleTimer := { start := live.time - 250, len := 250 } }, src.bayA.state := .feeding, src.feeding := .bayA, src.power := .pack }, by (repeat' apply And.intro) <;> decide⟩,
    ⟨.bayB, { fall with settleTimer := { start := live.time - 250, len := 250 } }, { live with src.hold := true, motion.state := .settling, motion.fall := some { fall with settleTimer := { start := live.time - 250, len := 250 } }, src.deferred := true, src.feeding := .bridge, src.power := .bridge, src.bayB.state := .ready, src.bayB.latch.acc := true }, by (repeat' apply And.intro) <;> decide⟩,
    ⟨{ live with motion.state := .fault, motion.restartBase := live.time - 999 }, by (repeat' apply And.intro) <;> decide⟩,
    ⟨{ live with motion.state := .fault, motion.restartBase := live.time - 1000 }, by (repeat' apply And.intro) <;> decide⟩,
    ⟨{ live with motion.parkTimer := some { start := live.time - 499, len := 500 } }, by (repeat' apply And.intro) <;> decide⟩,
    ⟨{ live with motion.parkTimer := some { start := live.time - 500, len := 500 } }, by (repeat' apply And.intro) <;> decide⟩,
    ⟨live, by (repeat' apply And.intro) <;> decide⟩,
    ⟨fall, [], { live with src.listOut := some [], motion.fall := some fall, hist.op := .erase 0 1 0, hist.list := List.replicate 7 (HistRecord.restart []) }, by (repeat' apply And.intro) <;> decide⟩⟩

theorem witness_ProgramCompletes :
    (∃ (s : State), s.Live ∧ s.hist.runsProgram = false)
    ∧ (∃ (cells : Option (List Byte)) (sector : Nat) (slot : Nat) (seq : Nat) (image : List Byte) (r : HistRecord) (s : State), s.Live ∧ s.hist.op = .program sector slot seq image ∧ s.hist.Clear ∧ s.hist.list = [r] ∧ s.hist.note = none ∧ s.hist.headSlot < 31 ∧ seq ≠ 4294967295 ∧ (cells = none ∨ cells = some image) ∧ image.length = 64)
    ∧ (∃ (seq : Nat) (image : List Byte) (r : HistRecord) (r2 : HistRecord) (more : List HistRecord) (s : State), s.Live ∧ s.hist.op = .program s.hist.headSector s.hist.headSlot seq image ∧ s.hist.Clear ∧ s.hist.list = r :: r2 :: more ∧ s.hist.note = none ∧ s.hist.headSlot < 31 ∧ seq ≠ 4294967295 ∧ image.length = 64 ∧ slotErased (s.hist.slotBytes s.hist.headSector (s.hist.headSlot + 1)) = true)
    ∧ (∃ (sector : Nat) (slot : Nat) (seq : Nat) (image : List Byte) (n : Note) (e : EntryId) (s : State), s.Live ∧ s.hist.op = .program sector slot seq image ∧ s.hist.Clear ∧ s.hist.list = [] ∧ s.hist.note = some n ∧ n.started = true ∧ s.req.actHistory = some e ∧ s.req.intake = [] ∧ s.hist.headSlot < 31 ∧ seq ≠ 4294967295 ∧ image.length = 64)
    ∧ (∃ (bs : List Byte) (seq : Nat) (image : List Byte) (r : HistRecord) (rest : List HistRecord) (s : State), s.Live ∧ s.hist.op = .program s.hist.headSector s.hist.headSlot seq image ∧ s.hist.Clear ∧ s.hist.list = r :: rest ∧ s.hist.note = none ∧ s.hist.tries < 2 ∧ s.hist.headSlot < 31 ∧ seq ≠ 4294967295 ∧ bs.length = 64 ∧ bs ≠ image ∧ slotErased (s.hist.slotBytes s.hist.headSector (s.hist.headSlot + 1)) = true)
    ∧ (∃ (bs : List Byte) (sector : Nat) (slot : Nat) (seq : Nat) (image : List Byte) (r : HistRecord) (s : State), s.Live ∧ s.hist.op = .program sector slot seq image ∧ s.hist.Clear ∧ s.hist.list = [r] ∧ s.hist.note = none ∧ s.hist.tries = 2 ∧ s.hist.headSlot < 31 ∧ seq ≠ 4294967295 ∧ bs.length = 64 ∧ bs ≠ image)
    ∧ (∃ (bs : List Byte) (sector : Nat) (slot : Nat) (seq : Nat) (image : List Byte) (n : Note) (e : EntryId) (s : State), s.Live ∧ s.hist.op = .program sector slot seq image ∧ s.hist.Clear ∧ s.hist.list = [] ∧ s.hist.note = some n ∧ n.started = true ∧ s.req.actHistory = some e ∧ s.req.intake = [] ∧ s.hist.tries = 2 ∧ s.hist.headSlot < 31 ∧ seq ≠ 4294967295 ∧ bs.length = 64 ∧ bs ≠ image)
    ∧ (∃ (sector : Nat) (slot : Nat) (image : List Byte) (r : HistRecord) (rest : List HistRecord) (s : State), s.Live ∧ s.HistoryLaw ∧ s.hist.op = .program sector slot 4294967295 image ∧ s.hist.Clear ∧ s.hist.list = r :: rest ∧ s.hist.note = none ∧ s.req.intake = [] ∧ s.req.actHistory = none ∧ image.length = 64)
    ∧ (∃ (bs : List Byte) (sector : Nat) (slot : Nat) (image : List Byte) (r : HistRecord) (rest : List HistRecord) (s : State), s.Live ∧ s.HistoryLaw ∧ s.hist.op = .program sector slot 4294967295 image ∧ s.hist.Clear ∧ s.hist.list = r :: rest ∧ s.hist.note = none ∧ s.req.intake = [] ∧ s.req.actHistory = none ∧ bs.length = 64 ∧ bs ≠ image)
    ∧ (∃ (sector : Nat) (slot : Nat) (seq : Nat) (image : List Byte) (r : HistRecord) (s : State), s.Live ∧ s.hist.op = .program sector slot seq image ∧ s.hist.Clear ∧ s.hist.list = [r] ∧ s.hist.note = none ∧ 31 ≤ s.hist.headSlot ∧ seq ≠ 4294967295 ∧ image.length = 64 ∧ slot < 32 ∧ sector ≠ (s.hist.headSector + 1) % s.hist.boundary) :=
  ⟨⟨live, by (repeat' apply And.intro) <;> decide⟩,
    ⟨some image, 62, 30, 7, image, HistRecord.restart [], { live with hist.op := .program 62 30 7 image, hist.headSector := 62, hist.headSlot := 30, hist.list := [HistRecord.restart []] }, by (repeat' apply And.intro) <;> decide⟩,
    ⟨7, image, HistRecord.restart [], HistRecord.restart [], [], { live with hist.op := .program 0 30 7 image, hist.headSlot := 30, hist.list := [HistRecord.restart [], HistRecord.restart []] }, by (repeat' apply And.intro) <;> decide⟩,
    ⟨0, 30, 7, image, noteStarted, 1, { live with hist.op := .program 0 30 7 image, hist.headSlot := 30, hist.note := some noteStarted, req.actHistory := some 1, req.entries := live.req.entries.set 1 .active }, by (repeat' apply And.intro) <;> decide⟩,
    ⟨List.replicate 64 1, 7, image, HistRecord.restart [], [], { live with hist.op := .program 0 30 7 image, hist.headSlot := 30, hist.tries := 1, hist.list := [HistRecord.restart []] }, by (repeat' apply And.intro) <;> decide⟩,
    ⟨List.replicate 64 1, 0, 30, 7, image, HistRecord.restart [], { live with hist.op := .program 0 30 7 image, hist.headSlot := 30, hist.tries := 2, hist.list := [HistRecord.restart []] }, by (repeat' apply And.intro) <;> decide⟩,
    ⟨List.replicate 64 1, 0, 30, 7, image, noteStarted, 1, { live with hist.op := .program 0 30 7 image, hist.headSlot := 30, hist.tries := 2, hist.note := some noteStarted, req.actHistory := some 1, req.entries := live.req.entries.set 1 .active }, by (repeat' apply And.intro) <;> decide⟩,
    ⟨0, 31, image, HistRecord.restart [], [], { live with hist.op := .program 0 31 4294967295 image, hist.headSlot := 31, hist.nextSeq := 4294967296, hist.list := [HistRecord.restart []] }, by (repeat' apply And.intro) <;> decide⟩,
    ⟨List.replicate 64 1, 0, 31, image, HistRecord.restart [], [], { live with hist.op := .program 0 31 4294967295 image, hist.headSlot := 31, hist.nextSeq := 4294967296, hist.list := [HistRecord.restart []] }, by (repeat' apply And.intro) <;> decide⟩,
    ⟨62, 31, 7, image, HistRecord.restart [], { live with hist.op := .program 62 31 7 image, hist.headSector := 62, hist.headSlot := 31, hist.list := [HistRecord.restart []] }, by (repeat' apply And.intro) <;> decide⟩⟩

theorem witness_EraseCompletes :
    (∃ (s : State), s.Live ∧ s.hist.runsErase = false)
    ∧ (∃ (sector : Nat) (attempt : Nat) (start : Time) (s : State), s.Live ∧ s.hist.op = .erase sector attempt start ∧ (s.time - start).toNat ≤ 120 ∧ s.hist.Clear ∧ s.hist.list = [] ∧ s.hist.note = none)
    ∧ (∃ (sector : Nat) (attempt : Nat) (start : Time) (r : HistRecord) (rest : List HistRecord) (s : State), s.Live ∧ s.hist.op = .erase sector attempt start ∧ (s.time - start).toNat ≤ 120 ∧ s.hist.Clear ∧ s.hist.list = r :: rest ∧ s.hist.note = none ∧ s.hist.tries = 0 ∧ slotErased (s.hist.slotBytes s.hist.headSector s.hist.headSlot) = true)
    ∧ (∃ (sector : Nat) (attempt : Nat) (start : Time) (r : HistRecord) (rest : List HistRecord) (s : State), s.Live ∧ s.hist.op = .erase sector attempt start ∧ (s.time - start).toNat ≤ 120 ∧ s.hist.scanning = true ∧ s.hist.nextSeq ≠ 0 ∧ s.hist.fault = none ∧ s.hist.eraseDue = false ∧ s.hist.note = none ∧ s.hist.protect = none ∧ s.hist.list = r :: rest ∧ s.hist.tries = 0 ∧ s.req.intake = [] ∧ slotErased (s.hist.slotBytes s.hist.headSector s.hist.headSlot) = true)
    ∧ (∃ (sector : Nat) (attempt : Nat) (start : Time) (s : State), s.Live ∧ s.HistoryLaw ∧ s.hist.op = .erase sector attempt start ∧ (s.time - start).toNat ≤ 120 ∧ s.hist.scanning = true ∧ s.hist.nextSeq = 0 ∧ s.req.intake = [])
    ∧ (∃ (bs : List Byte) (sector : Nat) (start : Time) (s : State), s.Live ∧ s.hist.op = .erase sector 1 start ∧ (bs.take 2048).any (fun b => b != 0xFF) = true)
    ∧ (∃ (bs : List Byte) (sector : Nat) (start : Time) (s : State), s.Live ∧ s.HistoryLaw ∧ s.req.intake = [] ∧ s.hist.op = .erase sector 2 start ∧ (bs.take 2048).any (fun b => b != 0xFF) = true)
    ∧ (∃ (s : State), s.Live ∧ ¬(s.hist.runsErase = true ∧ 120 ≤ (s.time - s.hist.eraseStart).toNat))
    ∧ (∃ (sector : Nat) (start : Time) (s : State), s.Live ∧ s.hist.op = .erase sector 1 start ∧ 120 ≤ (s.time - start).toNat)
    ∧ (∃ (sector : Nat) (start : Time) (s : State), s.Live ∧ s.HistoryLaw ∧ s.req.intake = [] ∧ s.hist.op = .erase sector 2 start ∧ 120 ≤ (s.time - start).toNat) :=
  ⟨⟨live, by (repeat' apply And.intro) <;> decide⟩,
    ⟨62, 2, live.time - 120, { live with hist.op := .erase 62 2 (live.time - 120), hist.headSector := 62 }, by (repeat' apply And.intro) <;> decide⟩,
    ⟨62, 1, live.time - 120, HistRecord.restart [], [], { live with hist.op := .erase 62 1 (live.time - 120), hist.headSector := 62, hist.list := [HistRecord.restart []] }, by (repeat' apply And.intro) <;> decide⟩,
    ⟨62, 1, live.time - 120, HistRecord.restart [], [], { live with hist.op := .erase 62 1 (live.time - 120), hist.headSector := 62, hist.scanning := true, hist.nextSeq := 4294967295, hist.list := [HistRecord.restart []] }, by (repeat' apply And.intro) <;> decide⟩,
    ⟨62, 2, live.time - 120, { live with hist.op := .erase 62 2 (live.time - 120), hist.headSector := 62, hist.scanning := true, hist.nextSeq := 0 }, by (repeat' apply And.intro) <;> decide⟩,
    ⟨[0], 62, live.time - 1, { live with hist.op := .erase 62 1 (live.time - 1), hist.headSector := 62 }, by (repeat' apply And.intro) <;> decide⟩,
    ⟨[0], 62, live.time - 1, { live with hist.op := .erase 62 2 (live.time - 1), hist.headSector := 62 }, by (repeat' apply And.intro) <;> decide⟩,
    ⟨{ live with hist.op := .erase 62 2 (live.time - 119), hist.headSector := 62 }, by (repeat' apply And.intro) <;> decide⟩,
    ⟨62, live.time - 120, { live with hist.op := .erase 62 1 (live.time - 120), hist.headSector := 62 }, by (repeat' apply And.intro) <;> decide⟩,
    ⟨62, live.time - 120, { live with hist.op := .erase 62 2 (live.time - 120), hist.headSector := 62 }, by (repeat' apply And.intro) <;> decide⟩⟩

theorem witness_StepsAndScanEnd :
    (∃ (s : State), s.Live ∧ s.hist.runsStep = false)
    ∧ (∃ (m : Option (BitVec 55)) (b : Nat) (attempt : Nat) (oldB : Nat) (e : EntryId) (s : State), s.Live ∧ s.hist.op = .boundary b attempt oldB ∧ s.req.actHistory = some e ∧ s.req.intake = [] ∧ s.hist.fault = none ∧ s.hist.list.length < 8 ∧ boundaryOf (s.hist.marksAfter b m) = b)
    ∧ (∃ (m : Option (BitVec 55)) (b : Nat) (oldB : Nat) (s : State), s.Live ∧ s.hist.op = .boundary b 1 oldB ∧ boundaryOf (s.hist.marksAfter b m) ≠ b)
    ∧ (∃ (m : Option (BitVec 55)) (b : Nat) (oldB : Nat) (e : EntryId) (s : State), s.Live ∧ s.HistoryLaw ∧ s.req.intake = [] ∧ s.hist.op = .boundary b 2 oldB ∧ s.req.actHistory = some e ∧ boundaryOf (s.hist.marksAfter b m) ≠ b)
    ∧ (∃ (s : State), s.Live ∧ (s.hist.scanning = false ∨ s.hist.op ≠ .idle))
    ∧ (∃ (s : State), s.Live ∧ s.hist.scanning = true ∧ s.hist.op = .idle)
    ∧ (∃ (s : State), s.Live ∧ s.hist.scanning = true ∧ s.hist.op = .idle ∧ s.hist.fault = none ∧ s.hist.note = none ∧ s.hist.protect = none ∧ s.hist.tries = 0 ∧ s.hist.list = [HistRecord.restart []] ∧ s.req.intake = [] ∧ highestSeq s.hist.valid ≠ 4294967295)
    ∧ (∃ (sector : Nat) (slot : Nat) (s : State), s.Live ∧ s.hist.scanning = true ∧ s.hist.op = .idle ∧ s.hist.fault = none ∧ s.hist.note = none ∧ s.hist.protect = none ∧ s.hist.tries = 0 ∧ s.hist.list = [HistRecord.restart []] ∧ s.req.intake = [] ∧ highestSeq s.hist.valid ≠ 4294967295 ∧ s.headFound sector slot ∧ (slot = 0 → ∀ k, k < 2048 → s.hist.byte (2048 * sector + k) = 0xFF))
    ∧ (∃ (sector : Nat) (s : State), s.Live ∧ s.hist.scanning = true ∧ s.hist.op = .idle ∧ s.hist.list = [HistRecord.restart []] ∧ s.headFound sector 0 ∧ (List.range 2048).any (fun k => s.hist.byte (2048 * sector + k) != 0xFF) = true)
    ∧ (∃ (sector : Nat) (slot : Nat) (s : State), s.Live ∧ s.hist.scanning = true ∧ s.hist.op = .idle ∧ highestSeq s.hist.valid = 4294967295 ∧ s.headFound sector slot ∧ (slot = 0 → ∀ k, k < 2048 → s.hist.byte (2048 * sector + k) = 0xFF) ∧ s.HistoryLaw ∧ s.req.intake = []) :=
  ⟨⟨live, by (repeat' apply And.intro) <;> decide⟩,
    ⟨none, 8, 2, 63, 0, { live with hist.op := .boundary 8 2 63, hist.protect := some { target := 8, started := true, entry := some 0 }, req.actHistory := some 0, req.entries := live.req.entries.set 0 .active }, by (repeat' apply And.intro) <;> decide⟩,
    ⟨some 0, 8, 63, { live with hist.op := .boundary 8 1 63, hist.protect := some { target := 8, started := true, entry := some 0 }, req.actHistory := some 0, req.entries := live.req.entries.set 0 .active }, by (repeat' apply And.intro) <;> decide⟩,
    ⟨some 0, 8, 63, 0, { live with hist.op := .boundary 8 2 63, hist.protect := some { target := 8, started := true, entry := some 0 }, req.actHistory := some 0, req.entries := live.req.entries.set 0 .active }, by (repeat' apply And.intro) <;> decide⟩,
    ⟨{ live with hist.scanning := true, hist.op := .erase 0 1 0 }, by (repeat' apply And.intro) <;> decide⟩,
    ⟨{ live with hist.scanning := true, hist.list := [HistRecord.restart []] }, by (repeat' apply And.intro) <;> decide⟩,
    ⟨{ live with hist.scanning := true, hist.list := [HistRecord.restart []] }, by (repeat' apply And.intro) <;> decide⟩,
    ⟨2, 31, scanOf 30 4294967294 [], by (repeat' apply And.intro) <;> decide +kernel⟩,
    ⟨3, scanOf 31 7 [⟨6144, 0⟩], by (repeat' apply And.intro) <;> decide +kernel⟩,
    ⟨2, 31, scanOf 30 4294967295 [], by (repeat' apply And.intro) <;> decide +kernel⟩⟩

theorem witness_ClockPagesAndWindow :
    (∃ (s : State), s.Live ∧ (s.time - s.clock.base).toNat < 1000)
    ∧ (∃ (s : State), s.Live ∧ 1000 ≤ (s.time - s.clock.base).toNat)
    ∧ (∃ (p : PageId) (s : State), s.Live ∧ (p = .part ∨ (s.time - (s.page p).base).toNat < (if p = .power then 1000 else 100)))
    ∧ (∃ (p : PageId) (s : State), s.Live ∧ p ≠ .part ∧ (if p = .power then 1000 else 100) ≤ (s.time - (s.page p).base).toNat)
    ∧ (∃ (p : PageId) (s : State), s.Live ∧ (s.page p).busy = false)
    ∧ (∃ (p : PageId) (s : State), s.Live ∧ (s.page p).busy = true ∧ (s.page p).again = false)
    ∧ (∃ (p : PageId) (s : State), s.Live ∧ (s.page p).busy = true ∧ (s.page p).again = true ∧ s.link.up = true)
    ∧ (∃ (s : State), s.Live ∧ s.gauge.secCount < 100)
    ∧ (∃ (s : State), s.Live ∧ 100 ≤ s.gauge.secCount)
    ∧ (∃ (s : State), s.Live ∧ s.link.up = true ∧ s.pages.part.busy = false ∧ 1000 ≤ (s.time - s.clock.base).toNat)
    ∧ (∃ (s : State), s.Live ∧ s.link.up = true ∧ s.pages.power.busy = false ∧ 1000 ≤ (s.time - s.pages.power.base).toNat)
    ∧ (∃ (s : State), s.Live ∧ s.link.up = true ∧ s.pages.display.busy = false ∧ 100 ≤ (s.time - s.pages.display.base).toNat)
    ∧ (∃ (s : State), s.Live ∧ s.link.up = true ∧ s.pages.motion.busy = false ∧ 100 ≤ (s.time - s.pages.motion.base).toNat) :=
  ⟨⟨{ live with clock.base := live.time - 999 }, by (repeat' apply And.intro) <;> decide⟩,
    ⟨{ live with clock.base := live.time - 1000 }, by (repeat' apply And.intro) <;> decide⟩,
    ⟨.power, { live with pages.power.base := live.time - 999 }, by (repeat' apply And.intro) <;> decide⟩,
    ⟨.power, { live with pages.power.base := live.time - 1000 }, by (repeat' apply And.intro) <;> decide⟩,
    ⟨.motion, live, by (repeat' apply And.intro) <;> decide⟩,
    ⟨.motion, { live with pages.motion.busy := true }, by (repeat' apply And.intro) <;> decide⟩,
    ⟨.motion, { live with pages.motion.busy := true, pages.motion.again := true }, by (repeat' apply And.intro) <;> decide⟩,
    ⟨{ live with gauge.secCount := 99 }, by (repeat' apply And.intro) <;> decide⟩,
    ⟨{ live with gauge.secCount := 100 }, by (repeat' apply And.intro) <;> decide⟩,
    ⟨{ live with clock.base := live.time - 1000 }, by (repeat' apply And.intro) <;> decide⟩,
    ⟨{ live with pages.power.base := live.time - 1000 }, by (repeat' apply And.intro) <;> decide⟩,
    ⟨{ live with pages.display.base := live.time - 100 }, by (repeat' apply And.intro) <;> decide⟩,
    ⟨{ live with pages.motion.base := live.time - 100 }, by (repeat' apply And.intro) <;> decide⟩⟩
/-! ## Witnesses of the remaining premises -/

/-- A state after a command, for the tests. -/
def after (c : Instr) (s : State) : State :=
  match exec c s with
  | .next t => t
  | .fault _ => s
  | .refused _ => s

/-- An array with one record, sequence 7, in sector 2 slot 5. -/
def logged : History :=
  { live.hist with
    array := memWriteBytes arrayDefault [] (slotAddr 2 5) (recordImage (HistRecord.restart []) 7 false) }

theorem witness_StepRunsFrontCommand : ∃ (c : Instr) (rest : List Instr) (s : State), s.pending = c :: rest :=
  ⟨.rampStep, [.coldStart], { live with pending := [.rampStep, .coldStart] }, by decide⟩

theorem witness_EmptyQueueLetsTimePass :
    (∃ s : State, s.pending = [] ∧ s.powered = false)
    ∧ (∃ s : State, s.pending = [] ∧ s.powered = true ∧ s.dueCommands = [])
    ∧ (∃ s : State, s.pending = [] ∧ s.powered = true ∧ s.dueCommands ≠ []) :=
  ⟨⟨{ live with powered := false }, by decide⟩,
    ⟨{ live with clock.base := 100000, pages.power.base := 100000, pages.motion.base := 100000,
                 pages.display.base := 100000 }, by decide⟩,
    ⟨live, by decide⟩⟩

theorem witness_UnservedHostHasNoEffect : ∃ s : State, s.Live ∧ s.hostServed = false :=
  ⟨{ live with link.up := false }, by decide⟩

theorem witness_RegistersAct_writes : ∃ s : State, s.hostServed = true ∧ s.Live := ⟨live, by decide⟩

theorem witness_NoticesRaisedAndConsumed_order : ∃ (x : NoticeSlot) (c : Nat), x.Law ∧ c ≤ x.raised ∧ x.raised < 255 :=
  ⟨{ fresh := true, raised := 254, saturated := false, time := 0, payload := List.replicate 8 0 }, 254, by decide⟩

theorem witness_LocateFindsRecord_found : memWf arrayDefault logged.array = true ∧ logged.locate 7 = some (2, 5) := by
  decide +kernel

theorem witness_LocateFindsRecord_notFound :
    memWf arrayDefault logged.array = true ∧ logged.locate 8 = none ∧ slotValid (logged.slotBytes 2 5) = true := by
  decide +kernel

theorem witness_SelectionTarget :
    (∃ s : State, s.target = s.src.feeding)
    ∧ (∃ s : State, s.target ≠ s.src.feeding ∧ s.target ≠ .empty
      ∧ (s.src.memberAvailable = false ∨ s.src.feeding = .empty ∨ s.src.power = .exhausted ∨ s.src.hold = false))
    ∧ (∃ s : State, s.target ≠ s.src.feeding ∧ s.target ≠ .empty ∧ s.src.memberAvailable = true
      ∧ s.src.feeding ≠ .empty ∧ s.src.power ≠ .exhausted ∧ s.src.hold = true)
    ∧ (∃ s : State, s.target = .empty ∧ s.src.feeding ≠ .empty ∧ ¬s.src.bayA.mayReengage ∧ ¬s.src.bayB.mayReengage)
    ∧ (∃ s : State, s.target = .empty ∧ s.src.feeding ≠ .empty ∧ s.src.bayA.mayReengage ∧ s.src.bayB.mayReengage) :=
  ⟨⟨live, by decide⟩, ⟨{ live with src.bayA.state := .ready }, by decide⟩,
    ⟨{ live with src.bayA.state := .feeding, src.feeding := .bayA, src.power := .pack, src.dcPresent := true,
                 src.hold := true }, by decide⟩,
    ⟨{ live with src.bayA.state := .feeding, src.feeding := .bayA, src.power := .pack, src.bayA.latchOpen := true },
      by decide⟩,
    ⟨{ live with src.bayA.state := .swapPrepared, src.bayA.present.acc := true, src.bayA.latch.acc := true,
                 src.bayB.state := .swapPrepared, src.bayB.present.acc := true, src.bayB.latch.acc := true,
                 src.feeding := .bridge, src.cutoff := true }, by decide⟩⟩

theorem witness_IndicatorPulseGiven_arbiter :
    (∃ s : State, s.drv.active = none)
    ∧ (∃ (g a : Group) (s : State), s.drv.active = some a ∧ a.entry = none ∧ g.cls = .swap ∧ a.cls = .drop)
    ∧ (∃ (g a : Group) (s : State), s.drv.active = some a ∧ a.cls = .swap ∧ g.cls = .swap
      ∧ ∀ x ∈ s.drv.waitSwap, x.entry = none)
    ∧ (∃ (g a : Group) (s : State), s.drv.active = some a ∧ a.cls = .drop ∧ g.cls = .drop
      ∧ ∀ x ∈ s.drv.waitDrop, x.entry = none)
    ∧ (∃ (g a : Group) (e : EntryId) (s : State), g.cls = .drop ∧ s.drv.active = some a ∧ a.cls = .host
      ∧ a.entry = some e ∧ s.req.actDisplay = some e ∧ s.link.up = true ∧ s.MemoryLaw) :=
  ⟨⟨live, rfl⟩, ⟨swapGroup, dropGroup, { live with drv.active := some dropGroup }, by decide⟩,
    ⟨swapGroup, swapGroup, { live with drv.active := some swapGroup, drv.waitSwap := some swapGroup }, by decide⟩,
    ⟨dropGroup, dropGroup, { live with drv.active := some dropGroup }, by decide⟩,
    ⟨dropGroup, hostOn, 0, { live with drv.active := some hostOn, req.actDisplay := some 0 }, by decide⟩⟩

theorem witness_PackCapacitySet_handOver :
    (∃ s : State, ((runSelection s).bay .bayA).state = .feeding) ∧ (∃ s : State, ((runSelection s).bay .bayA).state ≠ .feeding)
    ∧ (∃ (r : GaugeRec) (s : State), s.gaugeRec .bayA = some r ∧ (s.bay .bayA).state ≠ .held ∧ r.armed = true
      ∧ r.soc < s.src.warn)
    ∧ (∃ (r : GaugeRec) (s : State), s.gaugeRec .bayA = some r ∧ (s.bay .bayA).state ≠ .held ∧ r.armed = false
      ∧ s.src.warn + 5 ≤ r.soc)
    ∧ (∃ (r : GaugeRec) (s : State), s.gaugeRec .bayA = some r ∧ (s.bay .bayA).state ≠ .held ∧ r.armed = false
      ∧ r.soc < s.src.warn + 5) :=
  ⟨⟨{ live with src.bayA.state := .ready }, by decide⟩, ⟨live, by decide⟩,
    ⟨{ record with soc := 9 }, { live with gauge.recA := some { record with soc := 9 } }, by decide⟩,
    ⟨{ record with soc := 15, armed := false }, { live with gauge.recA := some { record with soc := 15, armed := false } },
      by decide⟩,
    ⟨{ record with soc := 14, armed := false }, { live with gauge.recA := some { record with soc := 14, armed := false } },
      by decide⟩⟩

theorem witness_FilterCurveAndDropValues :
    (∃ (x : Bright) (raw : Nat), x.filterValid = true ∧ x.filtered < raw)
    ∧ (∃ (x : Bright) (raw : Nat), x.filterValid = true ∧ raw < x.filtered)
    ∧ (∃ pts : List (Nat × Nat), pts.Pairwise (fun p q => p.1 < q.1 ∧ p.2 ≤ q.2) ∧ 1 < pts.length)
    ∧ (∃ f : Fall, f.peak ≤ 12582912) :=
  ⟨⟨{ live.bright with filterValid := true }, 130944, by decide⟩,
    ⟨{ live.bright with filterValid := true, filtered := 130944 }, 0, by decide⟩,
    ⟨Config.factoryCurve, by decide⟩, ⟨{ fall with peak := 12582912 }, by decide⟩⟩

/-- A step from reset, with a round waiting, meets the premises of every law. -/
theorem witness_laws :
    ∃ s t : State, step s = .next t ∧ s ≠ t ∧ s.NoticeLaw ∧ s.QueueLaw ∧ s.Quiet ∧ s.FeedLaw ∧ s.PowerLaw ∧ s.HoldLaw
      ∧ s.BrChgLaw ∧ s.TripLaw ∧ s.LatchLaw ∧ s.LevelLaw ∧ s.CompareLaw ∧ s.DarkLaw ∧ s.GaugeLaw ∧ s.SettingsLaw ∧ s.MemoryLaw ∧ s.HistoryLaw
      ∧ s.ProtectLaw :=
  ⟨{ State.reset with pending := [.sysrunLineChange .run] },
    after (.sysrunLineChange .run) State.reset, by (repeat' apply And.intro) <;> first | rfl | decide⟩

/-! ## Ill-formed commands are refused -/

/-- The host writes, and a read, that the well-formedness check refuses. -/
def illFormed : List Instr :=
  [.powerRound (round 65536 0 0 0), .powerRound (round 0 65536 0 0), .powerRound (round 0 0 65536 0),
    .powerRound (round 0 0 0 65536), .programCompletion (some [0]), .eraseCompletion (some []), .eraseTimeout [0],
    .periodicPageUpdate .part, .hostWrite 1 0 3, .hostWrite 0 0 0, .hostWrite 0x0502 0x0100 2, .attnRead 0,
    .attnClr 0 0, .attnMask 0 0, .registerWriteNoEffect 0 0 0, .registerWriteNoEffect 3 0 1,
    .registerWriteNoEffect 4 1 1, .registerWriteNoEffect 6 0 1, .registerWriteNoEffect 8 0 1,
    .alwaysOnSupplyLoss (List.replicate 2049 0) 0]

theorem test_illFormed_refused : illFormed.all (fun c => !c.wellFormed) = true := by decide +kernel

/-- Commands beside those, at the bounds, that it takes. -/
def wellFormedOnes : List Instr :=
  [.powerRound (round 65535 65535 65535 65535), .programCompletion none, .programCompletion (some image),
    .eraseCompletion none, .eraseTimeout (List.replicate 2048 0), .periodicPageUpdate .power, .hostWrite 0x1FFE 0 1,
    .hostWrite 0x0502 0x0100 3, .attnRead 2, .attnClr 0xFFFF 1, .attnMask 0 3, .registerWriteNoEffect 0 0 3,
    .registerWriteNoEffect 4 1 2, .registerWriteNoEffect 6 0 2, .registerWriteNoEffect 4 0xFFE0 1,
    .alwaysOnSupplyLoss (List.replicate 2048 0) 0, .coldStart, .setup 15]

theorem test_wellFormed_taken : wellFormedOnes.all Instr.wellFormed = true := by decide +kernel

/-! ## The spec's worked numbers -/

/-- R53: 250 mA on a sub of 0, −250 mA on a sub of 0, and −130 mA on a sub of 60 (as −132 mA on 62, a code being 4 mA). -/
theorem test_count_examples :
    (transferOf 250, transferOf (-250), transferOf (60 - 130), transferOf 1850, transferOf 1900) = (2, -2, 0, 18, 19) := by
  decide

/-- R53: a charge of 252 mA on a sub of 0 gives 2 mAs back, leaves −52, and clears the learn flag. -/
theorem test_count_charge :
    (let r := { record with learn := true : GaugeRec }.count (BitVec.ofInt 12 (-63))
    (r.sub, r.remaining, r.drawn, r.learn)) = (-52, 10800002, 0, false) := by decide

/-- 3.11: a window's last round at 11,300 mV estimates 60. -/
theorem test_estimate :
    (interpolate Config.openCircuit 11300, (newRec 21600000 60).remaining, (newRec 21600000 60).soc) = (60, 12960000, 60) := by
  decide

/-- 3.11: what a trip learns from 23,100,000, 25,000,000 and 9,000,000 mAs given. -/
theorem test_learned :
    [23100000, 25000000, 9000000].map (fun d => ({ record with drawn := d : GaugeRec }.learned 6000).full)
      = [23100000, 23760000, 10800000] := by decide

/-- 3.11: the time to empty with one place of 1,850 mA, and after a minute. -/
theorem test_timeToEmpty :
    ([12958150, 12849000, 12875999].map (fun c => State.timeToEmpty
      { live with src.bayA.state := .feeding, src.feeding := .bayA, gauge.window := [1850],
                  gauge.recA := some { record with remaining := c } })) = [116, 115, 115] := by decide

/-- R62, 3.11: at warn level 10 a fall from 10 to 9 fires, 12 leaves it fired, 15 arms it again. -/
theorem test_lowArming :
    ([(true, 10), (true, 9), (false, 12), (false, 14), (false, 15)].map (fun (x : Bool × Nat) =>
      ((checkLow .bayA { live with src.bayA.state := .feeding,
                                   gauge.recA := some { record with soc := x.2, armed := x.1 } }).gaugeRec .bayA).map
        (fun r => r.armed))) = [some true, some false, some false, some false, some true] := by decide

/-- R70: two examples, the steps of 24,800 and 63. -/
theorem test_filter :
    ({ live.bright with filterValid := true, filtered := 40000 : Bright }.filter 89600).filtered = 64800
      ∧ ({ live.bright with filterValid := true, filtered := 64800 : Bright }.filter 63800).filtered = 64737 := by decide

/-- R74: four lux values on the factory curve. -/
theorem test_curve : [64800, 40000, 1000, 150].map (interpolate Config.factoryCurve) = [912, 800, 200, 100] := by decide

/-- R83 and R85: the compare at period 600 with M of 2, and level 720 at period 1,200. -/
theorem test_compare :
    [0, 1, 200, 720, 942, 1000].map (fun c => compareOf c 600 2) = [0, 2, 120, 432, 565, 600]
      ∧ compareOf 720 1200 2 = 864 := by decide

/-- 4.11: bay A feeds at SoC 64 in RUN under full sun, offset +30, current level 700. -/
def sun : State :=
  { live with
    src.sysState := .run
    src.bayA.state := .feeding
    src.bayA.present := { raw := true, acc := true, cand := none }
    src.bayA.latch := { raw := false, acc := true, cand := some (live.time - 8) }
    src.feeding := .bayA
    src.power := .pack
    src.bridgeMonitor := .ready
    gauge.recA := some { record with soc := 64 }
    bright.offset := 30
    bright.filterValid := true
    bright.filtered := 40000
    bright.allowance := true
    bright.ceiling := 1000
    bright.current := 700
    bright.compare := 420
    drv.configured := true
    drv.sys := .run
    drv.levelZero := false
    drv.state := .framing }

/-- 4.11: the light sample of code 700 filters to 64,800 and leaves the level. -/
theorem test_sun_sample :
    (let t := after (.lightSample 700) sun
    (t.bright.filtered, t.bright.allowance, t.bright.ceiling, t.bright.current)) = (64800, true, 1000, 700) := by decide

/-- 4.11: the ramp step after it. -/
theorem test_sun_ramp :
    (let t := after .rampStep { sun with bright.filtered := 64800 }
    (t.bright.curveLevel, t.bright.request, t.bright.target, t.bright.current, t.bright.compare))
      = (912, 942, 942, 720, 432) := by decide

/-- 4.11: the latch opens and the load moves to the bridge. -/
theorem test_sun_latch :
    (let t := after (.latchAccepted .bayA) { sun with bright.filtered := 64800, bright.current := 720 }
    (t.src.power, t.bright.allowance, t.bright.ceiling, t.bright.current, t.bright.compare))
      = (.bridge, false, 200, 200, 120) := by decide

/-- 4.11: the allowance's hysteresis about 20,000 and 17,500 lux, and about a reserve of 30. -/
theorem test_allowance :
    (let x := fun (on : Bool) (lux soc : Nat) =>
      (judgeAllowance false { sun with bright.allowance := on, bright.filtered := lux,
                                       gauge.recA := some { record with soc := soc } }).bright.allowance
    [x false 21000 40, x true 18000 40, x true 17400 40, x false 19000 40, x true 20500 29, x true 20500 27, x false 20500 29])
      = [true, true, false, false, true, false, false] := by decide

/-- 5.8: the SWAP group that two others follow ends, and the other SWAP group starts ahead of the DROP group. -/
theorem test_groups :
    (let s := giveGroup swapGroup (giveGroup dropGroup (giveGroup swapGroup { live with drv.active := some hostOn }))
    (s.drv.active.map (fun g => g.cls), s.drv.waitSwap.map (fun g => g.cls), s.drv.waitDrop.map (fun g => g.cls)))
      = (some .swap, some .swap, some .drop) := by decide

/-- 6.12: height, peak and peak axis of the drop from the tailgate. -/
theorem test_drop :
    (let f := { fall with outcomeSlot := 160, peak := 1576500, peakAt := { x := -1100, y := 520, z := 310 } : Fall }
    (f.ms, heightOf f.ms, f.peakMg, f.axis)) = (400, 784, 10040, 2) := by decide

/-- R112: the bounds of height and peak. -/
theorem test_drop_bounds :
    (heightOf 2000, ({ fall with peak := 12582912 } : Fall).peakMg) = (19612, 28376) := by decide

/-- R106: the square magnitudes of 6.12. -/
theorem test_square :
    (Sample.square { x := -640, y := 300, z := 200 }, Sample.square { x := -1100, y := 520, z := 310 })
      = (539600, 1576500) := by decide

/-- R128: the check of the nine ASCII digits. -/
theorem test_check : crc [0x31, 0x32, 0x33, 0x34, 0x35, 0x36, 0x37, 0x38, 0x39] = 0x29B1 := by decide +kernel

/-- 8.3: entry 3 is the ACTIVE pulse and entry 4 a SET_BRIGHTNESS waits; the group ends, then the withdraw comes too late. -/
def lateWithdraw : State :=
  { (live.xwrite (0x0142 + 192) [0x22]) with
    req.entries := (live.req.entries.set 3 .active).set 4 .posted
    req.intake := [4]
    req.actDisplay := some 3
    drv.active := some { hostOff with entry := some 3, phaseStart := live.time - 60 } }

/-- 8.3: the group's end finishes entry 3 and serves entry 4; the withdraw is refused. -/
theorem test_lateWithdraw :
    (let t := after (.withdraw 4) (after .offTimeEnd lateWithdraw)
    (t.entry 3, t.entry 4, t.link.attn, t.link.lastRefused)) = (.done, .done, attnDone ||| attnOwnership, 0x0200) := by decide

/-- 8.3: the withdraw first finishes entry 4 WITHDRAWN. -/
theorem test_earlyWithdraw :
    (let t := after .offTimeEnd (after (.withdraw 4) lateWithdraw)
    (t.entry 3, t.entry 4, t.link.attn, t.link.lastRefused)) = (.done, .done, attnDone, 0xFFFF) := by decide

/-- 9.10: a posted pulse is ACTIVE, and a SET_BRIGHTNESS posted behind it waits. -/
theorem test_posting :
    (let t := after (.setBrightness 1) (after (.indicatorPulse 0)
      ((posted 0x24 [2, 0, 0xF4, 1, 0xF4, 1] live).xwrite 0x0142 [0x21, 0]))
    (t.entry 0, t.entry 1, t.req.intake)) = (.active, .posted, [1]) := by decide

/-- 10.6: a host that falls behind on BAY_SEATED. -/
theorem test_behind :
    (let s := raise .baySeated [0] { live with link.mask := 2, link.arm := true, link.attn := 0 }
    let r := after (.attnClr 2 3) (after (.attnRead 3) s)
    let t := after (.consume 0 1) (raise .baySeated [1] r)
    let u := after (.arm true) t
    (s.attnAsserted, r.attnAsserted, t.notices[0].raised, t.notices[0].fresh, t.attnAsserted, u.attnAsserted))
      = (true, false, 1, true, false, true) := by decide

/-- 6.12: bay A's pack is thrown out under the hold, and bay B takes the load at once. -/
def thrown : State :=
  { sun with
    bright.offset := 0
    src.hold := true
    src.bayA.present := { raw := false, acc := true, cand := some (live.time - 8) }
    src.bayB.state := .ready
    gauge.recB := some { record with soc := 70 } }

/-- 6.12: the loss accepted under the hold. -/
theorem test_thrown :
    (let t := after (.presentAccepted .bayA) thrown
    (t.src.bayA.state, t.src.bayA.prior, t.src.feeding, t.src.power, t.src.deferred))
      = (.held, some .feeding, .bayB, .pack, false) := by decide

/-- 7.11: the SWAP record's program completes at sector 12 slot 31, and the erase of sector 13 starts with HISTORY_WRAP;
here sector 13 holds one record, sequence 2,226. -/
theorem test_wrap :
    (let t := after (.programCompletion none)
      { live with
        hist.op := .program 12 31 4210 (recordImage (HistRecord.restart []) 4210 false)
        hist.list := [HistRecord.restart []]
        hist.headSector := 12
        hist.headSlot := 31
        hist.nextSeq := 4211
        hist.array := memWriteBytes arrayDefault [] (slotAddr 13 31) (recordImage (HistRecord.restart []) 2226 false) }
    (t.hist.op, t.hist.headSector, t.hist.headSlot, t.hist.list.length, (t.notices[NoticeKind.historyWrap.place]).payload))
      = (.erase 13 1 100000, 13, 0, 0, [13, 1, 0xB2, 8, 0, 0, 0, 0]) := by decide +kernel

end Sys2Proof.Tests
end

section
/-! The live pages at the end of an event, and a request finished in that event. -/

namespace Sys2Proof.Machine

variable {s u t : State} {p q : PageId} {e : EntryId} {code : ResultCode} {flags : Nat} {data : List Byte}

/-! ## Bytes -/

/-- Two memories that read the same byte by byte over a range give the same bytes there. -/
theorem memReadBytes_congr {d : Byte} {m m' : List Host.Cell} {a n : Nat}
    (h : ∀ x, a ≤ x → x < a + n → memRead d m' x = memRead d m x) : memReadBytes d m' a n = memReadBytes d m a n := by
  unfold memReadBytes
  apply List.map_congr_left
  intro i hi
  rw [List.mem_range] at hi
  exact h _ (by omega) (by omega)

@[simp] theorem leBytes_length (n v : Nat) : (leBytes n v).length = n := by
  induction n generalizing v with
  | zero => rfl
  | succ n ih => simp [leBytes, ih]

@[simp] theorem padTo_length (n : Nat) (fill : Byte) (bs : List Byte) : (padTo n fill bs).length = n := by
  simp [padTo]

/-- A result fills the 60 bytes of its entry from offset 4 on (12.2). -/
@[simp] theorem resultBytes_length : (resultBytes code flags data).length = 60 := by
  simp [resultBytes, le]

/-- An update writes all of a page but its close count (R184). -/
@[simp] theorem pageImage_length : (s.pageImage p).length = p.closeAt - p.base := by
  simp [State.pageImage]

/-- The bytes an update writes lie within its page, which is among the offsets of the live pages (R150). -/
theorem pageByte_of_mem_page {a : Nat} (h : p.base ≤ a) (h' : a < p.closeAt + 2) : pageByte a = true := by
  cases p <;> simp only [PageId.base, PageId.closeAt] at h h' <;> simp [pageByte] <;> omega

/-- No two pages share a byte (R150). -/
theorem page_disjoint {a : Nat} (hpq : q ≠ p) (h : q.base ≤ a) (h' : a < q.closeAt + 2) :
    a < p.base ∨ p.closeAt ≤ a := by
  cases p <;> cases q <;>
    simp only [PageId.base, PageId.closeAt, ne_eq, not_true_eq_false, reduceCtorEq] at hpq h h' ⊢ <;> omega

theorem PageId.base_le_closeAt : p.base + 2 ≤ p.closeAt := by cases p <;> decide

/-! ## What a page update changes -/

/-- A flush of page `p` keeps the exchange memory in canonical form. -/
theorem memWf_flushPage (w : memWf exchangeDefault s.link.memory = true) :
    memWf exchangeDefault (flushPage p s).link.memory = true := by
  unfold flushPage
  split
  · split
    · simpa using w
    · split
      · simpa using w
      · simpa [beginUpdate] using memWf_memWriteBytes _ _ w
  · exact w

/-- A flush of page `p` writes no byte outside that page. -/
theorem xread_flushPage {a : Nat} (w : memWf exchangeDefault s.link.memory = true) (h : a < p.base ∨ p.closeAt ≤ a) :
    (flushPage p s).xread a = s.xread a := by
  have hb := PageId.base_le_closeAt (p := p)
  unfold flushPage
  split
  · split
    · simp [State.xread]
    · split
      · simp [State.xread]
      · simp only [beginUpdate, State.xread, State.setPage_link, State.xwrite_memory]
        exact memRead_memWriteBytes_outside w (by rw [pageImage_length]; omega)
  · rfl

/-- A write and a page control together, as one record update. -/
theorem setPage_xwrite_eq (a : Nat) (bs : List Byte) (c : PageCtl) :
    ∃ g, (s.xwrite a bs).setPage p c
      = { s with link.memory := memWriteBytes exchangeDefault s.link.memory a bs, pages := g } := by
  cases p <;> exact ⟨_, rfl⟩

/-- A flush of page `p` changes the memory and the page controls only. -/
theorem flushPage_eq (p : PageId) (s : State) :
    ∃ m g, flushPage p s = { s with link.memory := m, pages := g } := by
  unfold flushPage
  split
  · split
    · cases p <;> exact ⟨_, _, rfl⟩
    · split
      · cases p <;> exact ⟨_, _, rfl⟩
      · exact ⟨_, setPage_xwrite_eq _ _ _⟩
  · exact ⟨_, _, rfl⟩

/-- A flush of page `p` leaves the other pages' controls. -/
theorem page_flushPage_ne (h : q ≠ p) : (flushPage p s).page q = s.page q := by
  unfold flushPage
  split
  · split
    · exact State.page_setPage_ne s _ h
    · split
      · exact State.page_setPage_ne s _ h
      · rw [beginUpdate, State.page_setPage_ne _ _ h]
        cases q <;> rfl
  · rfl

/-- Page `p`, and all that an update of it reads, are the same in two states. -/
structure SamePage (p : PageId) (s t : State) : Prop where
  ctl : t.page p = s.page p
  bytes : ∀ a, p.base ≤ a → a < p.closeAt + 2 → t.xread a = s.xread a
  up : t.link.up = s.link.up
  time : t.time = s.time
  fields : t.pageFields p = s.pageFields p

theorem SamePage.refl (p : PageId) (s : State) : SamePage p s s := ⟨rfl, fun _ _ _ => rfl, rfl, rfl, rfl⟩

theorem SamePage.trans {v : State} (h : SamePage p s t) (h' : SamePage p t v) : SamePage p s v :=
  ⟨h'.ctl.trans h.ctl, fun a ha hb => (h'.bytes a ha hb).trans (h.bytes a ha hb), h'.up.trans h.up,
    h'.time.trans h.time, h'.fields.trans h.fields⟩

theorem SamePage.symm (h : SamePage p s t) : SamePage p t s :=
  ⟨h.ctl.symm, fun a ha hb => (h.bytes a ha hb).symm, h.up.symm, h.time.symm, h.fields.symm⟩

/-- Bytes within a page read the same in states with the same page. -/
theorem SamePage.readBytes (h : SamePage p s t) {a n : Nat} (ha : p.base ≤ a) (hn : a + n ≤ p.closeAt + 2) :
    memReadBytes exchangeDefault t.link.memory a n = memReadBytes exchangeDefault s.link.memory a n :=
  memReadBytes_congr fun x h1 h2 => h.bytes x (by omega) (by omega)

theorem SamePage.openCount (h : SamePage p s t) : t.openCount p = s.openCount p := by
  have := PageId.base_le_closeAt (p := p)
  rw [State.openCount, State.xreadLe, h.readBytes (Nat.le_refl _) (by omega)]
  rfl

/-- A page field reads neither the exchange memory nor the page controls. -/
theorem pageFields_flushPage : (flushPage p s).pageFields q = s.pageFields q := by
  obtain ⟨m, g, h⟩ := flushPage_eq p s
  rw [h]
  cases q <;> rfl

/-- A flush of page `p` leaves every other page. -/
theorem samePage_flushPage (w : memWf exchangeDefault s.link.memory = true) (h : q ≠ p) :
    SamePage q s (flushPage p s) where
  ctl := page_flushPage_ne h
  bytes _ ha hb := xread_flushPage w (page_disjoint h ha hb)
  up := by simp
  time := by simp
  fields := pageFields_flushPage

/-- The step of a page does not depend on what is not that page. -/
theorem pageStep_congr {u' t' : State} (h : u.PageStep t p) (hu : SamePage p u u') (ht : SamePage p t t') :
    u'.PageStep t' p := by
  have hb := PageId.base_le_closeAt (p := p)
  have hu1 := hu.readBytes (a := p.base) (n := p.closeAt + 2 - p.base) (by omega) (by omega)
  have ht1 := ht.readBytes (a := p.base) (n := p.closeAt + 2 - p.base) (by omega) (by omega)
  have hu2 := hu.readBytes (a := p.closeAt) (n := 2) (by omega) (by omega)
  have ht2 := ht.readBytes (a := p.closeAt) (n := 2) (by omega) (by omega)
  have ht3 := ht.readBytes (a := p.base) (n := p.closeAt - p.base) (by omega) (by omega)
  simp only [State.PageStep, State.SameBytes, State.bytesAt, padTo_length, hu.ctl, hu.openCount, ht.ctl, ht.up, ht.time,
    ht.fields, hu1, ht1, hu2, ht2, ht3] at h ⊢
  exact h

/-- A flush of page `p` is the step of that page (R184, R185). -/
theorem pageStep_flushPage (w : memWf exchangeDefault s.link.memory = true) : s.PageStep (flushPage p s) p := by
  have hup : (flushPage p s).link.up = s.link.up := by simp
  simp only [State.PageStep, hup]
  by_cases hc : (s.page p).cause = true
  · by_cases hl : s.link.up = true
    · by_cases hb : (s.page p).busy = true
      · simp [flushPage, hc, hl, hb, State.SameBytes]
      · have hf : flushPage p s = beginUpdate p s := by simp [flushPage, hc, hl, hb]
        have hm := memReadBytes_memWriteBytes p.base (s.pageImage p) w
        have hn : memReadBytes exchangeDefault (flushPage p s).link.memory p.closeAt 2
            = memReadBytes exchangeDefault s.link.memory p.closeAt 2 :=
          memReadBytes_congr fun x h1 _ => xread_flushPage w (.inr h1)
        simp only [hc, hl, hb, and_self, if_true, if_false, State.SameBytes, State.bytesAt, padTo_length,
          pageFields_flushPage, (flushPage_frame s p).2.2.1, hn, and_true, Bool.false_eq_true]
        rw [pageImage_length] at hm
        exact ⟨by rw [hf]; simp [beginUpdate], by rw [hf, beginUpdate, State.setPage_link]; exact hm⟩
    · simp [flushPage, hc, hl, State.SameBytes]
  · have : (s.page p) = { s.page p with cause := false } := by
      simp only [Bool.not_eq_true] at hc
      rw [← hc]
    simp [flushPage, hc, State.SameBytes, ← this]

/-- The four page updates at the end of an event are the steps of the four pages (R184, R185). -/
theorem pagesStep_flushPages (w : memWf exchangeDefault s.link.memory = true) : s.PagesStep (flushPages s) := by
  have w1 := memWf_flushPage (p := .part) w
  have w2 := memWf_flushPage (p := .power) w1
  have w3 := memWf_flushPage (p := .display) w2
  have k1 (q : PageId) (h : q ≠ .part) := samePage_flushPage w h
  have k2 (q : PageId) (h : q ≠ .power) := samePage_flushPage w1 h
  have k3 (q : PageId) (h : q ≠ .display) := samePage_flushPage w2 h
  have k4 (q : PageId) (h : q ≠ .motion) := samePage_flushPage w3 h
  unfold flushPages
  refine ⟨?part, ?power, ?display, ?motion⟩
  case part =>
    exact pageStep_congr (pageStep_flushPage w) (.refl ..)
      (((k2 _ (by decide)).trans (k3 _ (by decide))).trans (k4 _ (by decide)))
  case power =>
    exact pageStep_congr (pageStep_flushPage w1) (k1 _ (by decide)).symm ((k3 _ (by decide)).trans (k4 _ (by decide)))
  case display =>
    exact pageStep_congr (pageStep_flushPage w2) ((k1 _ (by decide)).trans (k2 _ (by decide))).symm (k4 _ (by decide))
  case motion =>
    exact pageStep_congr (pageStep_flushPage w3)
      (((k1 _ (by decide)).trans (k2 _ (by decide))).trans (k3 _ (by decide))).symm (.refl ..)

/-- The page updates write no byte outside the live pages. -/
theorem xread_flushPages {a : Nat} (w : memWf exchangeDefault s.link.memory = true) (h : pageByte a = false) :
    (flushPages s).xread a = s.xread a := by
  have out (p : PageId) : a < p.base ∨ p.closeAt ≤ a := by
    by_contra hc
    have hp := pageByte_of_mem_page (p := p) (a := a) (by omega) (by omega)
    exact absurd hp (by simp [h])
  have w1 := memWf_flushPage (p := .part) w
  have w2 := memWf_flushPage (p := .power) w1
  have w3 := memWf_flushPage (p := .display) w2
  rw [flushPages, xread_flushPage w3 (out _), xread_flushPage w2 (out _), xread_flushPage w1 (out _),
    xread_flushPage w (out _)]

/-- The page updates change the memory and the page controls only. -/
theorem flushPages_eq (s : State) :
    flushPages s = { s with link.memory := (flushPages s).link.memory, pages := (flushPages s).pages } := by
  obtain ⟨m1, g1, h1⟩ := flushPage_eq .part s
  obtain ⟨m2, g2, h2⟩ := flushPage_eq .power (flushPage .part s)
  obtain ⟨m3, g3, h3⟩ := flushPage_eq .display (flushPage .power (flushPage .part s))
  obtain ⟨m4, g4, h4⟩ := flushPage_eq .motion (flushPage .display (flushPage .power (flushPage .part s)))
  have h : flushPages s = { s with link.memory := m4, pages := g4 } := by rw [flushPages, h4, h3, h2, h1]
  rw [h]

/-! ## A finished request (R168) -/

/-- A result lies in the request table, clear of the live pages (R150). -/
theorem pageByte_result {a : Nat} (h : entryBase e + 4 ≤ a) (h' : a < entryBase e + 64) : pageByte a = false := by
  have := e.isLt
  simp only [entryBase] at h h'
  simp [pageByte]
  omega

theorem memWf_finishEntry (w : memWf exchangeDefault s.link.memory = true) :
    memWf exchangeDefault (finishEntry e code flags data s).link.memory = true := memWf_memWriteBytes _ _ w

/-- Finishing an entry writes no byte outside its result. -/
theorem xread_finishEntry {a : Nat} (w : memWf exchangeDefault s.link.memory = true)
    (h : ¬(entryBase e + 4 ≤ a ∧ a < entryBase e + 64)) : (finishEntry e code flags data s).xread a = s.xread a :=
  memRead_memWriteBytes_outside w (by rw [resultBytes_length]; omega)

/-- Finishing an entry leaves the live pages, and what they show. -/
theorem samePage_finishEntry (w : memWf exchangeDefault s.link.memory = true) :
    SamePage p s (finishEntry e code flags data s) where
  ctl := by cases p <;> rfl
  bytes a ha hb := xread_finishEntry w fun h => absurd (pageByte_of_mem_page ha hb) (by simp [pageByte_result h.1 h.2])
  up := rfl
  time := rfl
  fields := by cases p <;> rfl

/-- An entry finished on `u`, and then the page updates: what a request leaves whose effect is `u` (R168, R185). -/
theorem served_flushPages_finishEntry (w : memWf exchangeDefault u.link.memory = true) :
    u.Served (flushPages (finishEntry e code flags data u)) e code flags data := by
  have w' := memWf_finishEntry (e := e) (code := code) (flags := flags) (data := data) w
  refine ⟨?state, ?result, ?bytes, ?pages⟩
  case state =>
    rw [flushPages_eq]
    rfl
  case result =>
    have h : memReadBytes exchangeDefault (flushPages (finishEntry e code flags data u)).link.memory (entryBase e + 4) 60
        = memReadBytes exchangeDefault (finishEntry e code flags data u).link.memory (entryBase e + 4) 60 :=
      memReadBytes_congr fun x h1 h2 => xread_flushPages w' (pageByte_result h1 (by omega))
    have hm := memReadBytes_memWriteBytes (entryBase e + 4) (resultBytes code flags data) w
    rw [resultBytes_length] at hm
    rw [State.bytesAt, resultBytes_length, h]
    exact hm
  case bytes =>
    intro a _ hp hr
    rw [xread_flushPages w' hp, xread_finishEntry w hr]
  case pages =>
    obtain ⟨h1, h2, h3, h4⟩ := pagesStep_flushPages w'
    have k {p : PageId} := (samePage_finishEntry (p := p) (e := e) (code := code) (flags := flags) (data := data) w).symm
    exact ⟨pageStep_congr h1 k (.refl ..), pageStep_congr h2 k (.refl ..), pageStep_congr h3 k (.refl ..),
      pageStep_congr h4 k (.refl ..)⟩

end Sys2Proof.Machine
end

section
/-! A posting that an idle unit takes in the same event (R165, R167), up to the result it leaves. -/

namespace Sys2Proof.Machine

variable {s u t : State} {e : EntryId} {k : ReqKind} {w : UnitId} {code : ResultCode} {flags : Nat} {data : List Byte}

/-! ## No work left but for the live pages -/

/-- Nothing is left for the end of an event but the page updates: `State.Quiet` without its clause on the pages. -/
abbrev State.NoWork (s : State) : Prop :=
  s.src.holdups = [] ∧ (∀ e ∈ s.req.intake, s.servable e = false) ∧ s.hist.Quiet

theorem State.Quiet.noWork (h : s.Quiet) : s.NoWork := ⟨h.1, h.2.1, h.2.2.1⟩

/-- Whether a queued request could be taken depends on its kind and on its unit only. -/
theorem servable_eq_of (hk : t.kindCode e = s.kindCode e) (hb : ∀ w, s.unitOf e = some w → t.busy w = s.busy w) :
    t.servable e = s.servable e := by
  have hu : t.unitOf e = s.unitOf e := by rw [State.unitOf, hk, ← State.unitOf]
  simp only [State.servable, hu]
  cases h : s.unitOf e with
  | none => rfl
  | some w => simp only [hb w h]

/-- Finishing an entry changes no request's kind, which stands before the result (12.2). -/
theorem kindCode_finishEntry {x : EntryId} (h : memWf exchangeDefault s.link.memory = true) :
    (finishEntry e code flags data s).kindCode x = s.kindCode x := by
  have hm : memReadBytes exchangeDefault (finishEntry e code flags data s).link.memory (entryBase x + 2) 2
      = memReadBytes exchangeDefault s.link.memory (entryBase x + 2) 2 :=
    memReadBytes_congr fun a h1 h2 => xread_finishEntry h fun hr => by simp only [entryBase] at *; omega
  rw [State.kindCode, State.xreadLe, hm]
  rfl

/-- Finishing an entry leaves no work where there was none. -/
theorem State.NoWork.finishEntry (h : s.NoWork) (hm : memWf exchangeDefault s.link.memory = true) :
    (finishEntry e code flags data s).NoWork := by
  obtain ⟨hh, hq, hx⟩ := h
  refine ⟨hh, fun x hx => ?_, hx⟩
  rw [servable_eq_of (kindCode_finishEntry hm) fun w _ => by cases w <;> rfl]
  exact hq x hx

/-! ## The posting and the unit that takes it -/

/-- Entry `e` posted: its state word, and its place at the end of the queue (R165). -/
abbrev State.withPosted (s : State) (e : EntryId) : State :=
  { s.setEntry e .posted with req.intake := s.req.intake ++ [e] }

/-- Entry `e` held by unit `w`: ACTIVE, and out of the queue (R167). -/
abbrev State.heldBy (s : State) (w : UnitId) (e : EntryId) : State := (s.setEntry e .active).setActive w (some e)

/-- The posting write of an entry that the host may post (R153, R165). -/
theorem hostPost_of_postable (h : s.Postable (some k) e) (hw : k.unit = some w) :
    hostPost (some k) e s = s.withPosted e := by
  obtain ⟨hserved, -, -, -, hentry, hkind⟩ := h
  have he : (Fin.ofNat 16 ((entryBase e - 0x0100) / 64) : EntryId) = e := by
    apply Fin.ext
    simp only [entryBase, Fin.ofNat]
    omega
  have hwatch : watchWrite (entryBase e) EntryState.posted.word 3 s = writeStateWord e (entryBase e) EntryState.posted.word s := by
    have := e.isLt
    have h1 : ¬ entryBase e % 2 = 1 := by simp only [entryBase]; omega
    have h2 : ¬ entryBase e < 0x0100 := by simp only [entryBase]; omega
    have h3 : entryBase e < 0x0500 := by simp only [entryBase]; omega
    have h4 : entryBase e % 64 = 0 := by simp only [entryBase]; omega
    rw [watchWrite, if_neg (by simp [h1]), if_neg h2, if_pos h3]
    simp only [writeEntry, h4, he, if_true]
  have hkind' : (s.setEntry e .posted).kindCode e = s.kindCode e := rfl
  have hpost : postEntry e s = s.withPosted e := by
    simp only [postEntry, hkind', hkind, hw]
    rfl
  rw [hostPost, if_pos hkind, hostWrite, hostAccess, if_pos hserved, hwatch, ← hpost]
  obtain hf | hd := hentry
  · simp [writeStateWord, hf]
  · simp [writeStateWord, hd]

/-- An entry that the host may post is not in the queue. -/
theorem State.Postable.not_mem_intake {o : Option ReqKind} (h : s.Postable o e) : e ∉ s.req.intake := by
  obtain ⟨-, -, -, ⟨-, hqueue, -⟩, hentry, -⟩ := h
  rw [hqueue]
  obtain hf | hd := hentry <;> simp [*]

/-- The posted entry leaves the queue to be judged with its unit holding it (R167). -/
theorem takeEntry_withPosted (hn : e ∉ s.req.intake) (hk : reqKindOf (s.kindCode e) = some k) (hw : k.unit = some w) :
    takeEntry e (s.withPosted e) = serve k e (s.heldBy w e) := by
  have hk' : reqKindOf ((s.withPosted e).kindCode e) = some k := hk
  have hfilter : (s.req.intake ++ [e]).filter (fun x => x ≠ e) = s.req.intake := by
    rw [List.filter_append, List.filter_eq_self.2 fun x hx => decide_eq_true (ne_of_mem_of_not_mem hx hn)]
    simp
  have hheld : { s.withPosted e with req.intake := (s.req.intake ++ [e]).filter (fun x => x ≠ e) }.setEntry e .active
      = s.setEntry e .active := by
    rw [hfilter]
    simp [State.setEntry]
  simp only [takeEntry, hk', hw]
  exact congrArg (fun x => serve k e (x.setActive w (some e))) hheld

/-- A unit with no entry of its own finishes the entry that it holds, and holds none again (R168). -/
theorem finishUnit_heldBy (h : s.active w = none) :
    finishUnit w code flags data (s.heldBy w e) = finishEntry e code flags data s := by
  have hr : (s.heldBy w e).setActive w none = s.setEntry e .active := by
    cases w <;> simp only [State.active] at h <;> simp only [State.heldBy, State.setActive, State.setEntry, ← h]
  rw [finishUnit, State.active_setActive]
  simp only [hr]
  simp [finishEntry, State.setEntry, State.xwrite]

/-- The end of the event that posts entry `e` for an idle unit: the unit takes `e`, and where that leaves no other work
the page updates follow (R167, R185). -/
theorem endEvent_withPosted (hT : s.Taken k e) (hw : k.unit = some w) {v : State}
    (hv : takeEntry e (s.withPosted e) = v) (hn : v.NoWork) : endEvent (s.withPosted e) = flushPages v := by
  obtain ⟨⟨-, ⟨hholdups, hqueue, -⟩, -, -, -, hkind⟩, hidle⟩ := hT
  have hbusy : s.busy w = false := by simpa [hw] using hidle
  have hsame (x : EntryId) : (s.withPosted e).servable x = s.servable x :=
    servable_eq_of rfl fun w _ => by cases w <;> rfl
  have he : s.servable e = true := by simp [State.servable, State.unitOf, hkind, hw, hbusy]
  have hfind : (s.withPosted e).req.intake.find? (s.withPosted e).servable = some e := by
    have hold : s.req.intake.find? (s.withPosted e).servable = none :=
      List.find?_eq_none.2 fun x hx => by simp [hsame, hqueue x hx]
    show (s.req.intake ++ [e]).find? _ = _
    rw [List.find?_append, hold]
    simp [hsame, he]
  have hserve : serveQueues (s.withPosted e) = v := by
    have hlen : (s.withPosted e).req.intake.length = s.req.intake.length + 1 := by simp
    rw [serveQueues, hlen, serveUpTo, hfind]
    simp only [hv]
    exact serveUpTo_of_none hn.2.1 _
  rw [endEvent, issueHoldups_of_nil (s := s.withPosted e) hholdups, hserve, issueHoldups_of_nil hn.1,
    arbitrate_of_quiet hn.2.2]

/-- A posting that an idle unit takes and finishes in the same event. `u` is the effect of the request's rule on the
state before the posting: it leaves no work and holds no entry in the unit (R165, R167, R168). -/
theorem event_hostPost_served (hT : s.Taken k e) (hw : k.unit = some w)
    (hserve : serve k e (s.heldBy w e) = finishUnit w code flags data (u.heldBy w e)) (hidle : u.active w = none)
    (hwork : u.NoWork) (hmem : memWf exchangeDefault u.link.memory = true) :
    ∃ t, event (hostPost (some k) e) s = .next t ∧ u.Served t e code flags data := by
  have ⟨hpost, _⟩ := hT
  have ⟨hserved, _, _, _, _, hkind⟩ := hpost
  have hpow : s.powered = true := by
    simp only [State.hostServed, Bool.and_eq_true] at hserved
    exact hserved.1.1
  have htake : takeEntry e (s.withPosted e) = finishEntry e code flags data u := by
    rw [takeEntry_withPosted hpost.not_mem_intake hkind hw, hserve, finishUnit_heldBy hidle]
  refine ⟨_, ?_, served_flushPages_finishEntry hmem⟩
  rw [event, if_pos hpow, hostPost_of_postable hpost hw, endEvent_withPosted hT hw htake (hwork.finishEntry hmem)]

end Sys2Proof.Machine
end

section
/-! Source and charge selection take no part in the Request Engine's work: they neither read nor change the request table
and the staged curve, and where a member feeds they bring no entry into EXHAUSTED. -/

namespace Sys2Proof.Machine

/-! ## The request table and the staged curve -/

/-- The state with another request table and another staged curve: all of what a unit may be busy with that an operation
of the Source Controller could reach. -/
def State.withRequests (s : State) (r : Requests) (c : Option (List (Nat × Nat))) : State :=
  { s with req := r, bright.staged := c }

section
variable {s : State} {r : Requests} {c : Option (List (Nat × Nat))}

/-- A choice between two states, both with the other request table. -/
theorem withRequests_ite {p : Prop} [Decidable p] {t u : State} :
    (if p then t else u).withRequests r c = if p then t.withRequests r c else u.withRequests r c :=
  apply_ite (State.withRequests · r c) p t u

@[simp] theorem raise_withRequests (k : NoticeKind) (bs : List Byte) :
    raise k bs (s.withRequests r c) = (raise k bs s).withRequests r c := rfl

@[simp] theorem touch_withRequests (p : PageId) : (s.withRequests r c).touch p = (s.touch p).withRequests r c := by
  cases p <;> rfl

@[simp] theorem setBay_withRequests (b : BayId) (x : Bay) :
    (s.withRequests r c).setBay b x = (s.setBay b x).withRequests r c := by
  cases b <;> rfl

@[simp] theorem src_withRequests : (s.withRequests r c).src = s.src := rfl
@[simp] theorem bay_withRequests (b : BayId) : (s.withRequests r c).bay b = s.bay b := by cases b <;> rfl

/-! Each operation that selection is made of, in the order of the definitions. -/

@[simp] theorem judgeBacklight_withRequests :
    judgeBacklight (s.withRequests r c) = (judgeBacklight s).withRequests r c := by
  rw [judgeBacklight, judgeBacklight, withRequests_ite]
  refine ite_congr rfl (fun _ => rfl) fun _ => ?_
  cases h : s.drv.state <;> simp only [State.withRequests, h]

@[simp] theorem judgeAllowance_withRequests (x : Bool) :
    judgeAllowance x (s.withRequests r c) = (judgeAllowance x s).withRequests r c := by
  have hoff (o : Option AllowanceCause) (u : State) :
      (match o with
        | none => u.withRequests r c
        | some k => changeAllowance false (if x then .settings else k) (u.withRequests r c))
      = (match o with
        | none => u
        | some k => changeAllowance false (if x then .settings else k) u).withRequests r c := by
    cases o <;> rfl
  rw [judgeAllowance, judgeAllowance, withRequests_ite, withRequests_ite]
  exact ite_congr rfl (fun _ => hoff (Bright.turnsOff { s.bright with judgedSoc := s.feedingSoc } s.src.power s.feedingSoc)
    { s with bright.judgedSoc := s.feedingSoc }) fun _ => rfl

@[simp] theorem runChain_withRequests : runChain (s.withRequests r c) = (runChain s).withRequests r c := by
  rw [runChain, runChain, withRequests_ite]
  rfl

@[simp] theorem handCompare_withRequests : handCompare (s.withRequests r c) = (handCompare s).withRequests r c := by
  rw [handCompare, handCompare, withRequests_ite, handOver, handOver, ← judgeBacklight_withRequests]
  rfl

@[simp] theorem evaluate_withRequests (x : Bool) :
    evaluate x (s.withRequests r c) = (evaluate x s).withRequests r c := by
  simp only [evaluate, judgeAllowance_withRequests, runChain_withRequests]
  rw [← handCompare_withRequests, withRequests_ite]
  rfl

@[simp] theorem updatePower_withRequests (k : HoldupCause) (again : Bool) :
    updatePower k again (s.withRequests r c) = (updatePower k again s).withRequests r c := by
  simp only [updatePower, withRequests_ite, ← evaluate_withRequests]
  rfl

@[simp] theorem evalBrChg_withRequests : evalBrChg (s.withRequests r c) = (evalBrChg s).withRequests r c := rfl

@[simp] theorem setCharge_withRequests (b : BayId) (on : Bool) :
    setCharge b on (s.withRequests r c) = (setCharge b on s).withRequests r c := by
  simp only [setCharge, withRequests_ite, bay_withRequests, setBay_withRequests, touch_withRequests]

@[simp] theorem selectCharge_withRequests :
    selectCharge (s.withRequests r c) = (selectCharge s).withRequests r c := by
  have hchoice : (s.withRequests r c).chargeChoice = s.chargeChoice := rfl
  simp only [selectCharge, withRequests_ite, src_withRequests, setCharge_withRequests, hchoice]
  cases s.chargeChoice <;> rfl

@[simp] theorem enterReady_withRequests (b : BayId) :
    enterReady b (s.withRequests r c) = (enterReady b s).withRequests r c := by
  simp only [enterReady, bay_withRequests, setBay_withRequests, touch_withRequests]

@[simp] theorem enterReleasing_withRequests (b : BayId) (x : BayState) :
    enterReleasing b x (s.withRequests r c) = (enterReleasing b x s).withRequests r c := by
  simp only [enterReleasing, bay_withRequests, setBay_withRequests, touch_withRequests]

@[simp] theorem leaveSet_withRequests : leaveSet (s.withRequests r c) = (leaveSet s).withRequests r c := by
  simp only [leaveSet, src_withRequests]
  cases s.src.feeding.bay with
  | none => rfl
  | some b =>
    simp only [withRequests_ite, bay_withRequests, setBay_withRequests, enterReady_withRequests,
      enterReleasing_withRequests]

@[simp] theorem joinSet_withRequests (f : Feed) :
    joinSet f (s.withRequests r c) = (joinSet f s).withRequests r c := by
  cases f <;> rfl

@[simp] theorem emptyWindow_withRequests : emptyWindow (s.withRequests r c) = (emptyWindow s).withRequests r c := rfl

@[simp] theorem updateRide_withRequests (left : PowerState) :
    updateRide left (s.withRequests r c) = (updateRide left s).withRequests r c := by
  rw [updateRide, updateRide, withRequests_ite]
  rfl

@[simp] theorem switchOver_withRequests (f : Feed) :
    switchOver f (s.withRequests r c) = (switchOver f s).withRequests r c := by
  simp [switchOver]

@[simp] theorem reengage_withRequests (b : BayId) :
    reengage b (s.withRequests r c) = (reengage b s).withRequests r c := by
  simp [reengage]

@[simp] theorem noSource_withRequests : noSource (s.withRequests r c) = (noSource s).withRequests r c := by
  have hchoice : (s.withRequests r c).reengageChoice = s.reengageChoice := rfl
  simp only [noSource, hchoice, src_withRequests]
  cases s.reengageChoice with
  | some b => exact reengage_withRequests b
  | none => simp only [withRequests_ite, switchOver_withRequests]

@[simp] theorem runSelection_withRequests :
    runSelection (s.withRequests r c) = (runSelection s).withRequests r c := by
  have htarget : (s.withRequests r c).target = s.target := rfl
  simp only [runSelection, htarget, src_withRequests, withRequests_ite, noSource_withRequests, switchOver_withRequests]
  rfl

@[simp] theorem lapse_withRequests (b : BayId) : lapse b (s.withRequests r c) = (lapse b s).withRequests r c := by
  simp only [lapse, withRequests_ite, bay_withRequests, setBay_withRequests, enterReady_withRequests,
    runSelection_withRequests, selectCharge_withRequests]

/-- A lapsing preparation leaves the staged curve. -/
theorem lapse_staged (b : BayId) : (lapse b s).bright.staged = s.bright.staged :=
  congrArg (·.bright.staged) (lapse_withRequests (s := s) (r := s.req) (c := s.bright.staged) b)

/-- A held entry is a change of the request table. -/
theorem heldBy_eq_withRequests (w : UnitId) (e : EntryId) :
    s.heldBy w e = s.withRequests (s.heldBy w e).req s.bright.staged := by
  cases w <;> rfl

/-- A preparation lapses alike whichever entry a unit holds. -/
theorem lapse_heldBy (b : BayId) (w : UnitId) (e : EntryId) :
    lapse b (s.heldBy w e) = (lapse b s).heldBy w e := by
  have hreq : ((lapse b s).heldBy w e).req = (s.heldBy w e).req := by
    have h : (lapse b s).req = s.req := by simp
    cases w <;> simp only [State.heldBy, State.setActive, State.setEntry, h]
  rw [heldBy_eq_withRequests, lapse_withRequests, heldBy_eq_withRequests (s := lapse b s), hreq, lapse_staged]

end

/-! ## No entry into EXHAUSTED -/

section
variable {s : State}

/-- An update of the power state holds a HOLDUP back only at an entry into EXHAUSTED (R44). -/
theorem updatePower_holdups {k : HoldupCause} {again : Bool}
    (h : s.src.derivedPower = .exhausted → s.src.power = .exhausted) :
    (updatePower k again s).src.holdups = s.src.holdups := by
  simp only [updatePower]
  split
  · split <;> simp
  next hne =>
    have hx : s.src.derivedPower ≠ .exhausted := fun hx => hne (hx.trans (h hx).symm)
    simp [hx]

@[simp] theorem setCharge_holdups (b : BayId) (on : Bool) : (setCharge b on s).src.holdups = s.src.holdups := by
  unfold setCharge
  split <;> simp

@[simp] theorem selectCharge_holdups : (selectCharge s).src.holdups = s.src.holdups := by
  unfold selectCharge
  split
  · simp
  · split
    · rfl
    · split <;> simp

/-- What leaving the feeding set keeps of the source record. -/
theorem leaveSet_src : (leaveSet s).src.holdups = s.src.holdups ∧ (leaveSet s).src.power = s.src.power
    ∧ (leaveSet s).src.exhLatch = s.src.exhLatch := by
  simp only [leaveSet]
  cases s.src.feeding.bay with
  | none => simp
  | some b =>
    simp only
    split
    · simp
    · split <;> simp [enterReady, enterReleasing]

/-- What joining the feeding set does to the source record: DC and a bay clear the exhaustion latch (R14). -/
theorem joinSet_src (f : Feed) : (joinSet f s).src.holdups = s.src.holdups ∧ (joinSet f s).src.power = s.src.power
    ∧ (joinSet f s).src.feeding = f
    ∧ (joinSet f s).src.exhLatch = (s.src.exhLatch && (decide (f = .empty) || decide (f = .bridge))) := by
  cases f <;> simp [joinSet, joinSet.joinBay]

/-- A switch-over holds a HOLDUP back only where it empties the feeding set, or takes the bridge under the exhaustion
latch, and the power state was not EXHAUSTED before (R13, R44). -/
theorem switchOver_holdups {f : Feed}
    (h : s.src.power = .exhausted ∨ f ≠ .empty ∧ (f = .bridge → s.src.exhLatch = false)) :
    (switchOver f s).src.holdups = s.src.holdups := by
  obtain ⟨lh, lp, lx⟩ := leaveSet_src (s := s)
  obtain ⟨jh, jp, jf, jx⟩ := joinSet_src (s := leaveSet s) f
  have hride (u : State) (p : PowerState) : (evalBrChg (updateRide p u)).src.holdups = u.src.holdups := by
    simp only [evalBrChg, updateRide]
    split <;> simp
  have hpower : (joinSet f (leaveSet s)).src.derivedPower = .exhausted → (joinSet f (leaveSet s)).src.power = .exhausted := by
    intro hd
    rw [jp, lp]
    obtain hp | ⟨hne, hbr⟩ := h
    · exact hp
    · rw [Source.derivedPower, jf, jx, lx] at hd
      cases f <;> simp_all
  simp only [switchOver, selectCharge_holdups, hride]
  rw [updatePower_holdups (by simpa using hpower)]
  simp [jh, lh]

/-- An available member is a source that selection finds (R15, R16). -/
theorem target_ne_empty_of_memberAvailable (h : s.src.memberAvailable = true) : s.target ≠ .empty := by
  have hb (b : BayId) : b.feed ≠ .empty := by cases b <;> decide
  unfold State.target
  split
  · decide
  next hdc =>
    split
    next b _ => exact hb b
    next hp =>
      split
      · decide
      next hn =>
        have hp' : s.src.bayA.eligible = false ∧ s.src.bayB.eligible = false := by
          unfold State.packChoice at hp
          repeat' split at hp
          all_goals simp_all
        exfalso
        cases hf : s.src.feeding <;> simp_all [Source.memberAvailable]

/-- The bridge is a new target only without the exhaustion latch (R15). -/
theorem exhLatch_of_target_bridge (h : s.target = .bridge) (hne : s.target ≠ s.src.feeding) : s.src.exhLatch = false := by
  have hb (b : BayId) : b.feed ≠ .bridge := by cases b <;> decide
  have hf : s.src.feeding ≠ .bridge := fun hf => hne (h.trans hf.symm)
  unfold State.target at h
  split at h
  · cases h
  · split at h
    · exact absurd h (hb _)
    · split at h
      next hc =>
        obtain ⟨-, hl⟩ : _ ∧ s.src.exhLatch = false := by simpa [Source.bridgeCandidate, hf] using hc
        exact hl
      · cases h

/-- A stranded member keeps the load (R18, R39). -/
theorem keepsLoad_of_stranded
    (h : s.src.feeding.bay.any (fun b => decide ((s.bay b).state = .feeding ∧ (s.bay b).latchOpen = true)) = true) :
    s.src.keepsLoad = true := by
  unfold Source.keepsLoad
  cases hf : s.src.feeding <;> simp only [hf, Feed.bay, Option.any, decide_eq_true_eq] at h
  case bayA | bayB =>
    obtain ⟨hs, ho⟩ := h
    simp only [State.bay] at hs ho
    simp [Feed.bay, hs, ho]
  all_goals cases h

/-- Where `State.Fed` holds, source selection brings no entry into EXHAUSTED (R18, R44). -/
theorem runSelection_holdups (h : s.Fed) : (runSelection s).src.holdups = s.src.holdups := by
  have hreengage (c : BayId) : (reengage c s).src.holdups = s.src.holdups := by
    simp only [reengage, raise_frame]
    exact switchOver_holdups (.inr (by cases c <;> simp [BayId.feed]))
  unfold runSelection
  split
  · rfl
  next hne =>
    split
    next hempty =>
      unfold noSource
      split
      · exact hreengage _
      · split
        · rfl
        next hkeeps =>
          apply switchOver_holdups
          obtain hmem | hex | hstr := h
          · exact absurd hempty (target_ne_empty_of_memberAvailable hmem)
          · exact .inl hex
          · exact absurd (keepsLoad_of_stranded hstr) hkeeps
    next hsome =>
      split
      · exact switchOver_holdups (.inr ⟨hsome, fun hbr => exhLatch_of_target_bridge hbr hne⟩)
      · rfl

end

end Sys2Proof.Machine
end

section
/-! SWAP_ABORT (R37): what a lapsing preparation does to its bay, and the result of the request. -/

namespace Sys2Proof.Machine

variable {s u : State} {b : BayId} {e : EntryId}

/-! ## A preparation lapses -/

/-- Bay `b` READY after its preparation lapsed in SWAP_PREPARED (R9, R37). -/
abbrev Bay.aborted (x : Bay) : Bay :=
  { x with
    state := .ready, prior := none, priorRel := none, prepTimer := none,
    depleted := x.depleted || decide (x.monitor = .tripped) }

/-- A preparation that lapses in SWAP_PREPARED runs both selections on the READY bay (R37). -/
theorem lapse_of_swapPrepared (h : (s.bay b).state = .swapPrepared) :
    lapse b s = selectCharge (runSelection ((s.setBay b (s.bay b).aborted).touch .power)) := by
  have hready : enterReady b (s.setBay b (s.bay b).lapsed) = (s.setBay b (s.bay b).aborted).touch .power := by
    cases b <;> rfl
  rw [lapse, if_pos h, hready]

/-- A preparation that lapses in RELEASING leaves READY as the prior state, and runs no selection (R37). -/
theorem lapse_of_releasing (hs : (s.bay b).state = .releasing) (hp : (s.bay b).prior = some .swapPrepared)
    (hr : (s.bay b).priorRel = none) :
    lapse b s = s.setBay b { s.bay b with prior := some .ready, prepTimer := none } := by
  have hbay : (s.bay b).lapsed = { s.bay b with prior := some .ready, prepTimer := none } := by
    simp [Bay.lapsed, hp, hr]
  rw [lapse, if_neg (by simp [hs]), hbay]

theorem bay_setBay_ne {c : BayId} (x : Bay) (h : c ≠ b) : (s.setBay b x).bay c = s.bay c := by
  cases b <;> cases c
  case bayA.bayA | bayB.bayB => exact absurd rfl h
  all_goals rfl

/-- A member that is available with bay `b` in SWAP_PREPARED is another source, so it is available whatever becomes of
bay `b` (R15). -/
theorem memberAvailable_setBay {x : Bay} (hs : (s.bay b).state = .swapPrepared) (h : s.src.memberAvailable = true) :
    (s.setBay b x).src.memberAvailable = true := by
  have hnot : (s.bay b).eligible = false := by simp [Bay.eligible, hs]
  unfold Source.memberAvailable at h ⊢
  rw [State.setBay_src_feeding]
  cases hf : s.src.feeding <;> simp only [hf] at h ⊢
  case bayA | bayB => cases b <;> simp_all [State.bay, State.setBay]
  case empty => exact h
  all_goals simpa using h

/-- A SWAP_PREPARED bay is not what feeds: where it becomes READY, `State.Fed` stays. -/
theorem fed_setBay_aborted (h : s.Fed) (hs : (s.bay b).state = .swapPrepared) :
    ((s.setBay b (s.bay b).aborted).touch .power).Fed := by
  obtain hmem | hex | hstr := h
  · exact .inl (by simpa using memberAvailable_setBay hs hmem)
  · exact .inr (.inl (by simpa using hex))
  · refine .inr (.inr ?_)
    rw [Option.any_eq_true] at hstr ⊢
    obtain ⟨c, hc, hst⟩ := hstr
    have hcb : c ≠ b := by
      rintro rfl
      simp [hs] at hst
    exact ⟨c, by simpa using hc, by simpa [bay_setBay_ne _ hcb] using hst⟩

/-- A preparation that lapses holds no HOLDUP back where the load is fed (R18, R44). -/
theorem lapse_holdups (hf : (s.bay b).state = .swapPrepared → s.Fed) : (lapse b s).src.holdups = s.src.holdups := by
  by_cases hs : (s.bay b).state = .swapPrepared
  · rw [lapse_of_swapPrepared hs, selectCharge_holdups, runSelection_holdups (fed_setBay_aborted (hf hs) hs)]
    simp
  · simp [lapse, hs]

/-! ## Work that a lapse leaves -/

/-- With the POWER unit idle, an effect that leaves the requests and the work of the other units leaves no work where
there was none (R167). -/
theorem State.NoWork.of_power_effect (h : s.NoWork) (hidle : s.busy .power = false)
    (hholdups : u.src.holdups = s.src.holdups) (hmem : u.link.memory = s.link.memory) (hreq : u.req = s.req)
    (hstaged : u.bright.staged = s.bright.staged) (hmotion : u.motion = s.motion) (hhist : u.hist = s.hist) :
    u.NoWork := by
  obtain ⟨h1, h2, h3⟩ := h
  refine ⟨hholdups.trans h1, fun x hx => ?_, hhist ▸ h3⟩
  have hx' : s.servable x = false := h2 x (hreq ▸ hx)
  rw [servable_eq_of (s := s) (by simp [State.kindCode, State.xreadLe, hmem]) fun w hw => ?_, hx']
  cases w with
  | power => simp [State.servable, hw, hidle] at hx'
  | display => simp [State.busy, hreq, hstaged]
  | motion => simp [State.busy, hreq, hmotion]
  | history => simp [State.busy, hreq, hhist]

/-- A lapse leaves no work while the POWER unit is idle. -/
theorem State.NoWork.lapse (h : s.NoWork) (hidle : s.busy .power = false)
    (hf : (s.bay b).state = .swapPrepared → s.Fed) : (lapse b s).NoWork :=
  h.of_power_effect hidle (lapse_holdups hf) (by simp) (by simp) (lapse_staged b) (by simp) (by simp)

/-! ## The request -/

/-- Every argument above 1 names no bay (R32). -/
theorem bayOf_of_one_lt {n : Nat} (h : 1 < n) : bayOf n = none := by
  match n, h with
  | _ + 2, _ => rfl

@[simp] theorem bayOf_code (b : BayId) : bayOf b.code = some b := by cases b <;> rfl

/-- A held entry's argument, and the bays, are those before the posting. -/
theorem heldBy_reads (w : UnitId) (k n : Nat) :
    (s.heldBy w e).arg e k n = s.arg e k n ∧ ∀ b, (s.heldBy w e).bay b = s.bay b := by
  constructor
  · cases w <;> rfl
  · intro b
    cases w <;> cases b <;> rfl

/-- A SWAP_ABORT whose argument names no bay (R37). -/
theorem serveSwapAbort_of_no_bay (h : 1 < s.arg e 0 1) :
    serve .swapAbort e (s.heldBy .power e) = finishUnit .power .badArg 0 [] (s.heldBy .power e) := by
  rw [serve, serveSwapAbort, (heldBy_reads .power 0 1).1, bayOf_of_one_lt h]
  rfl

/-- A SWAP_ABORT of bay `b`: the lapse of its preparation, if there is one to end (R37). -/
theorem serveSwapAbort_of_bay (h : s.arg e 0 1 = b.code) :
    serve .swapAbort e (s.heldBy .power e)
      = if (s.bay b).abortable then finishUnit .power .ok 0 [] ((lapse b s).heldBy .power e)
        else finishUnit .power .wrongState 0 [] (s.heldBy .power e) := by
  obtain ⟨harg, hbay⟩ := heldBy_reads (s := s) (e := e) .power 0 1
  rw [serve, serveSwapAbort, harg, h, bayOf_code]
  simp only [hbay, lapse_heldBy]
  rfl

/-- A POWER request that is taken at its posting finds its unit idle (R167). -/
theorem State.Taken.power_idle {k : ReqKind} (h : s.Taken k e) (hk : k.unit = some .power) :
    s.busy .power = false ∧ s.active .power = none := by
  have hb : s.busy .power = false := by simpa [hk] using h.2
  refine ⟨hb, ?_⟩
  simpa [State.active] using (Bool.or_eq_false_iff.1 hb).1

/-- A SWAP_ABORT refused with `code`: it is finished on the state as it was (R37). -/
theorem swapAbort_refused {code : ResultCode} (hT : s.Taken .swapAbort e)
    (hserve : serve .swapAbort e (s.heldBy .power e) = finishUnit .power code 0 [] (s.heldBy .power e)) :
    ∃ t, exec (.swapAbort e) s = .next t ∧ s.Served t e code 0 [] := by
  have ⟨⟨_, hquiet, ⟨hmem, _⟩, _⟩, _⟩ := hT
  exact event_hostPost_served hT rfl hserve (hT.power_idle rfl).2 hquiet.noWork hmem

/-- A SWAP_ABORT of an abortable bay: it is finished OK on the state in which the preparation has lapsed (R37). -/
theorem swapAbort_lapses (hT : s.Taken .swapAbort e) (harg : s.arg e 0 1 = b.code) (hab : (s.bay b).abortable = true)
    (hf : (s.bay b).state = .swapPrepared → s.Fed) :
    ∃ t, exec (.swapAbort e) s = .next t ∧ (lapse b s).Served t e .ok 0 [] := by
  have ⟨⟨_, hquiet, ⟨hmem, _⟩, _⟩, _⟩ := hT
  obtain ⟨hidle, hactive⟩ := hT.power_idle rfl
  have hserve := serveSwapAbort_of_bay (s := s) (e := e) harg
  rw [if_pos hab] at hserve
  exact event_hostPost_served hT rfl hserve (by simpa [State.active] using hactive) (hquiet.noWork.lapse hidle hf)
    (by simpa using hmem)

/-- Settles O21, clause by clause: the effect is none for a refusal, and the lapse of the preparation else. -/
theorem swapAbortJudged : Obligations.SwapAbortJudged := by
  unfold Obligations.SwapAbortJudged
  refine ⟨?noBay, ?otherState, ?releasing, ?swapPrepared⟩
  case noBay =>
    rintro e s ⟨hT, harg⟩
    exact swapAbort_refused hT (serveSwapAbort_of_no_bay harg)
  case otherState =>
    rintro e b s ⟨hT, harg, hs, hr⟩
    have hab : (s.bay b).abortable = false := by simpa [Bay.abortable, hs] using hr
    exact swapAbort_refused hT (by rw [serveSwapAbort_of_bay harg, hab]; rfl)
  case releasing =>
    rintro e b s ⟨hT, harg, hs, hp, hr⟩
    rw [← lapse_of_releasing hs hp hr]
    exact swapAbort_lapses hT harg (by simp [Bay.abortable, hs, hp]) (by simp [hs])
  case swapPrepared =>
    rintro e b s ⟨hT, harg, hs, hf⟩
    have h := swapAbort_lapses hT harg (by simp [Bay.abortable, hs]) fun _ => hf
    rwa [lapse_of_swapPrepared hs] at h

end Sys2Proof.Machine
end

section
/-! Notices: what a consume and a raise do to their slot, and the host's write of the consumed byte (R179 to R181). -/

namespace Sys2Proof.Machine

variable {s : State} {x : NoticeSlot} {c : Nat} {now : Time} {payload : List Byte}

/-! ## A slot -/

/-- A consume of the whole count or more empties the slot (R181). -/
theorem NoticeSlot.consume_of_raised_le (h : x.raised ≤ c) :
    x.consume c = { x with raised := 0, fresh := false, saturated := false } := if_pos h

/-- A consume of less than the count leaves the rest (R181). -/
theorem NoticeSlot.consume_of_lt_raised (h : c < x.raised) : x.consume c = { x with raised := x.raised - c } :=
  if_neg (Nat.not_le.2 h)

/-- A consume takes its count off, down to 0 (R181). -/
@[simp] theorem NoticeSlot.consume_raised : (x.consume c).raised = x.raised - c := by
  obtain h | h := le_or_gt x.raised c
  · rw [consume_of_raised_le h]
    exact (Nat.sub_eq_zero_of_le h).symm
  · rw [consume_of_lt_raised h]

/-- Below 255 a raise counts one more (R180). -/
theorem NoticeSlot.raise_raised_of_lt (h : x.raised < 255) : (x.raise now payload).raised = x.raised + 1 := if_pos h

@[simp] theorem NoticeSlot.raise_fresh : (x.raise now payload).fresh = true := rfl

/-- The saturated flag after a raise: as before, or set by a raise at 255 (R180). -/
theorem NoticeSlot.raise_saturated :
    (x.raise now payload).saturated = (x.saturated || decide (255 ≤ x.raised)) := by
  obtain h | h := lt_or_ge x.raised 255
  · simp [raise, h, Nat.not_le.2 h]
  · simp [raise, h, Nat.not_lt.2 h]

/-- The attention flag of a route: none with notify off, else its group's (R180). -/
theorem Route.flag_eq (r : Route) :
    r.flag = if r.notify then (if r.group = .groupA then attnNoticeA else attnNoticeB) else 0 := by
  obtain ⟨notify, group⟩ := r
  cases group <;> rfl

/-! ## The host's write of the consumed byte -/

/-- The high byte of a word put together from two bytes. -/
theorem highByte_append (hi lo : Byte) : highByte (hi ++ lo) = hi := by
  change ((hi ++ lo : BitVec (8 + 8)) >>> 8).setWidth 8 = hi
  ext i h
  rw [BitVec.getElem_setWidth, BitVec.getLsbD_ushiftRight, BitVec.getLsbD_append]
  simp [BitVec.getLsbD_eq_getElem h]

/-- The write watch takes a write of the consumed byte alone as a consume of its slot (R155). -/
theorem watchWrite_consumedByte (k : Fin 32) (c : Byte) :
    watchWrite (slotBase k + 2) (c ++ (0 : Byte)) 2 s = consumeSlot k c.toNat s := by
  have hk := k.isLt
  have heven : ¬ (slotBase k + 2) % 2 = 1 := by simp only [slotBase]; omega
  have hlow : ¬ slotBase k + 2 < 0x0500 := by simp only [slotBase]; omega
  have hhigh : slotBase k + 2 < 0x0700 := by simp only [slotBase]; omega
  have hbyte : (slotBase k + 2) % 16 = 2 := by simp only [slotBase]; omega
  have hslot : (Fin.ofNat 32 ((slotBase k + 2 - 0x0500) / 16)) = k := by
    apply Fin.ext
    simp only [slotBase, Fin.ofNat]
    omega
  rw [watchWrite, if_neg (not_or.2 ⟨by decide, heven⟩), if_neg (by omega), if_neg hlow, if_pos hhigh, writeNotice,
    if_pos ⟨hbyte, rfl⟩, hslot, highByte_append]

/-- A consume leaves no work: the notice table is none of what the end of an event looks at. -/
theorem quiet_consumeSlot (h : s.Quiet) (k : Fin 32) (c : Nat) : (consumeSlot k c s).Quiet := h

/-- CONSUME of a served host, where nothing is left to do, is the consume of its slot (R155, R181). -/
theorem exec_consume (hserved : s.hostServed = true) (hlive : s.Live) (k : Fin 32) (c : Byte) :
    exec (.consume k c) s = .next (consumeSlot k c.toNat s) := by
  obtain ⟨hpow, hquiet, -⟩ := hlive
  have hwrite : hostWrite (slotBase k + 2) (c ++ (0 : Byte)) 2 s = consumeSlot k c.toNat s := by
    rw [hostWrite, hostAccess, if_pos hserved, watchWrite_consumedByte]
  have hevent : exec (.consume k c) s = .next (hostWrite (slotBase k + 2) (c ++ (0 : Byte)) 2 s) :=
    event_of_quiet hpow (by rw [hwrite]; exact quiet_consumeSlot hquiet k c.toNat)
  rw [hevent, hwrite]

/-- The consumed byte of a slot reads 0 (R179). -/
theorem slotBytes_consumedByte (k : Fin 32) : (s.slotBytes k).getD 3 1 = 0 := rfl

/-- Settles O13: the consume by its write, the two orders by the counts, the raise field by field. -/
theorem noticesRaisedAndConsumed : Obligations.NoticesRaisedAndConsumed := by
  unfold Obligations.NoticesRaisedAndConsumed
  refine ⟨?consume, ?order, ?raise⟩
  case consume =>
    rintro k c s ⟨hserved, hlive⟩
    exact ⟨_, exec_consume hserved hlive k c, rfl, slotBytes_consumedByte k⟩
  case order =>
    intro x c now payload _ hc hlt
    have hrest : (x.consume c).raised < 255 := by rw [NoticeSlot.consume_raised]; omega
    have hmore : c < (x.raise now payload).raised := by rw [NoticeSlot.raise_raised_of_lt hlt]; omega
    refine ⟨?_, ?_, NoticeSlot.raise_fresh, ?_⟩
    · rw [NoticeSlot.raise_raised_of_lt hrest, NoticeSlot.consume_raised]
    · rw [NoticeSlot.consume_raised, NoticeSlot.raise_raised_of_lt hlt]
      omega
    · rw [NoticeSlot.consume_of_lt_raised hmore, NoticeSlot.raise_fresh]
  case raise =>
    intro k payload s
    rw [← Route.flag_eq, ← NoticeSlot.raise_saturated (now := s.time) (payload := payload)]
    rfl

end Sys2Proof.Machine
end
